-- ==== Sys2Proof/Word.lean ====
section
/-! DEFINITION. The words of YAQOI-ENC: bytes, the 88-bit command word, and the pixel (spec 00_scope.md R7 to R9). -/

namespace Sys2Proof

/-- One byte; bit 7 is the most significant (00_scope.md R7). -/
abbrev Byte := BitVec 8

/-- One word of the command port, `cmd_data[87:0]` (30_encoding.md R80). -/
abbrev CommandWord := BitVec 88

/-- A cache index, 0..63 (00_scope.md R6, `HASH_BITS` = 6). -/
abbrev Slot := BitVec 6

/-- A pixel: four unsigned 8-bit channels (00_scope.md R6, R9). -/
structure Pixel where
  R : Byte
  G : Byte
  B : Byte
  A : Byte
  deriving DecidableEq, Repr

/-- `px(r, g, b, a)` (00_scope.md R9). -/
abbrev px (r g b a : Byte) : Pixel := ⟨r, g, b, a⟩

/-- The zero pixel `px(0,0,0,0)`, which every cache slot holds at stream start (10_state.md R21). -/
abbrev Pixel.zero : Pixel := px 0 0 0 0

end Sys2Proof
end

