-- ==== Sys2Proof/Config.lean ====
section
/-! DEFINITION. The parameters of an implementation (spec 00_scope.md R6), how the model reads reserved command bits
(30_encoding.md R85), and the free values of the two behaviours the spec leaves unspecified (93_implementation_defined.md
U2, U3). -/

namespace Sys2Proof

/-- The two admitted values of the OPEN parameter `LAST_PX_INIT` (00_scope.md R6, 92_eei_decisions.md D2). -/
inductive LastPxInit where
  /-- `px(0,0,0,255)`, the default of 92_eei_decisions.md D2 -/
  | opaqueBlack
  /-- `px(0,0,0,0)`, the "zero init" variant of 95_test_vectors.md -/
  | zeroAlpha
  deriving DecidableEq, Repr

/-- The pixel a value of `LAST_PX_INIT` stands for. -/
def LastPxInit.pixel : LastPxInit → Pixel
  | .opaqueBlack => px 0 0 0 255
  | .zeroAlpha => px 0 0 0 0

/-- 30_encoding.md R85 says two things of a command word with a reserved bit set: "The hardware ignores every reserved
bit" and "A model refuses, at decode, any word with a reserved bit set". -/
inductive ReservedBits where
  /-- the model's reading: such a word is refused at decode (safe: it errs toward unprovable) -/
  | refuse
  /-- the hardware's reading: such a word behaves as the same word with those bits clear -/
  | ignore
  deriving DecidableEq, Repr

/-- What is fixed for one machine. It stands in State as a field that no step writes, since the machine's step takes no
other argument (log 1, log 2). -/
structure Config where
  lastPxInit : LastPxInit
  reservedBits : ReservedBits
  deriving DecidableEq, Repr

/-- DESIGN CHOICE (log 1, log 2): the default value of 92_eei_decisions.md D2, and R85's "a model refuses". -/
def Config.default : Config := ⟨.opaqueBlack, .refuse⟩

/-- `RUN_MAX`, the longest run in one chunk (00_scope.md R6). -/
abbrev runMax : BitVec 6 := 62

/-- FREE VALUE (log 9): what the n-th draw gives for a register read while BUSY = 1, "a draw of any 64-bit value"
(70_reset_and_hazards.md R206). -/
opaque Config.freeRead : Nat → BitVec 64

/-- FREE VALUE (log 10): what the n-th draw gives for the length of the prefix that reached the sink when reset fell in a
command (70_reset_and_hazards.md R201). -/
opaque Config.freePrefix : Nat → Nat

end Sys2Proof
end

