-- ==== Sys2Proof/Syntax.lean ====
section
/-! DEFINITION. The instructions: one constructor for each row of spec/opcode_table.json, four commands (CMD88) and six
chunks; and the two encoded forms they have (spec 30_encoding.md). -/

namespace Sys2Proof

/-- One constructor per row of the opcode table. The commands are what a host sends (30_encoding.md R81); the chunks are
what the chunk writer serialises (30_encoding.md R86), with the operands of the listing syntax R99. -/
inductive Instr where
  /-- `INIT w, h, c, cs, s` (R83, R97) -/
  | init (w h : BitVec 32) (c cs : Byte) (s : Bool)
  /-- `PIX r, g, b, a` (R82, R97) -/
  | pix (p : Pixel)
  /-- `FINISH` (R84) -/
  | finish
  /-- `ILLEGAL`, the reserved op 0b11 (R85) -/
  | illegal
  /-- `INDEX i` (R87) -/
  | index (i : Slot)
  /-- `DIFF dr, dg, db`, signed deltas (R88) -/
  | diff (dr dg db : Int)
  /-- `LUMA dg, drg, dbg`: the green delta and the cross deltas dr - dg and db - dg (R89, R99) -/
  | luma (dg drg dbg : Int)
  /-- `RUN n`: n is the run length, not the payload (R90, R99) -/
  | run (n : BitVec 6)
  /-- `RGB r, g, b` (R91) -/
  | rgb (r g b : Byte)
  /-- `RGBA r, g, b, a` (R92) -/
  | rgba (p : Pixel)
  deriving DecidableEq, Repr

/-- An encoded instruction: a command is one 88-bit word (R80), a chunk is a sequence of bytes in stream order (R86). -/
inductive Fetched where
  | command (w : CommandWord)
  | chunk (bytes : List Byte)
  deriving DecidableEq, Repr

/-- True of the four commands, which a host issues; false of the six chunks, which the block emits. -/
def Instr.isCommand : Instr → Bool
  | .init .. => true
  | .pix .. => true
  | .finish => true
  | .illegal => true
  | .index .. => false
  | .diff .. => false
  | .luma .. => false
  | .run .. => false
  | .rgb .. => false
  | .rgba .. => false

def Fetched.isCommand : Fetched → Bool
  | .command _ => true
  | .chunk _ => false

end Sys2Proof
end

