-- ==== Sys2Proof/WellFormed.lean ====
section
/-! DEFINITION. Which instruction terms have an encoding: the operand ranges of the chunks (spec 30_encoding.md R88, R89,
R90). Every command term has one: an illegal descriptor is encoded and accepted (41_engine.md R131). -/

namespace Sys2Proof

/-- `lo <= x <= hi` on integers. -/
def inRange (lo x hi : Int) : Bool := decide (lo ≤ x) && decide (x ≤ hi)

/-- The operand ranges an encoding admits. -/
def Instr.wf : Instr → Bool
  | .init .. => true
  | .pix .. => true
  | .finish => true
  | .illegal => true
  | .index .. => true
  | .diff dr dg db => inRange (-2) dr 1 && inRange (-2) dg 1 && inRange (-2) db 1
  | .luma dg drg dbg => inRange (-32) dg 31 && inRange (-8) drg 7 && inRange (-8) dbg 7
  | .run n => decide (1 ≤ n.toNat) && decide (n.toNat ≤ 62)
  | .rgb .. => true
  | .rgba .. => true

/-- The instruction term has an encoding. -/
abbrev WellFormed (i : Instr) : Prop := i.wf = true

end Sys2Proof
end

