-- ==== Sys2Proof/Decode.lean ====
section
/-! DEFINITION. The decoder of command words and of chunks, total and rejecting by name, and after it the encoder
(spec 30_encoding.md). -/

namespace Sys2Proof

/-- Why an encoded form has no instruction. -/
inductive DecodeReject where
  /-- a command word with a reserved bit set (R85) -/
  | reservedBits
  /-- no byte at all, so no tag byte (R86) -/
  | emptyChunk
  /-- fewer bytes than the first byte calls for (R94) -/
  | truncatedChunk
  /-- more bytes than the first byte calls for (R94) -/
  | trailingBytes
  deriving DecidableEq, Repr

/-! ## Pixels in a command word -/

/-- `pack(p)`: R in bits [31:24], A in bits [7:0] (00_scope.md R9, 20_memory.md R64). -/
def Pixel.pack (p : Pixel) : BitVec 32 := p.R ++ p.G ++ p.B ++ p.A

/-- `px(PX[31:24], PX[23:16], PX[15:8], PX[7:0])` (30_encoding.md R82). -/
def Pixel.unpack (v : BitVec 32) : Pixel :=
  px (v.extractLsb' 24 8) (v.extractLsb' 16 8) (v.extractLsb' 8 8) (v.extractLsb' 0 8)

/-! ## Command words -/

/-- The four values of the `op` field (30_encoding.md R81). -/
inductive CommandOp where
  | pixel
  | finish
  | init
  | reserved
  deriving DecidableEq, Repr

/-- `op = cmd[87:86]` (30_encoding.md R81). -/
def commandOp (w : CommandWord) : CommandOp :=
  let op := w.extractLsb' 86 2
  if op = 0b00#2 then .pixel
  else if op = 0b01#2 then .finish
  else if op = 0b10#2 then .init
  else .reserved

/-- The reserved bits of a word with this op (30_encoding.md R85): [85:81] in every word, also [80:32] in PIXEL, and all
of [85:0] in FINISH and in op 0b11. -/
def reservedMask : CommandOp → CommandWord
  | .pixel => 0x3FFFFFFFFFFFFF00000000#88
  | .finish => 0x3FFFFFFFFFFFFFFFFFFFFF#88
  | .init => 0x3E00000000000000000000#88
  | .reserved => 0x3FFFFFFFFFFFFFFFFFFFFF#88

/-- The same word with its reserved bits clear. -/
def clearReserved (w : CommandWord) : CommandWord := w &&& ~~~(reservedMask (commandOp w))

/-- The operands of a command word (30_encoding.md R82, R83), whatever its reserved bits. -/
def commandOperands (w : CommandWord) : Instr :=
  match commandOp w with
  | .pixel => .pix (Pixel.unpack (w.extractLsb' 0 32))
  | .finish => .finish
  | .init =>
    .init (w.extractLsb' 48 32) (w.extractLsb' 16 32) (w.extractLsb' 8 8) (w.extractLsb' 0 8) (w.getLsbD 80)
  | .reserved => .illegal

/-- A command word, refused by name when a reserved bit is set (30_encoding.md R85). -/
def decodeCommand (w : CommandWord) : Except DecodeReject Instr :=
  if w &&& reservedMask (commandOp w) = 0 then .ok (commandOperands w) else .error .reservedBits

/-! ## Chunks -/

/-- A chunk's length in bytes, from its first byte alone (30_encoding.md R94). -/
def chunkLength (b0 : Byte) : Nat :=
  if b0 = 0xFF#8 then 5
  else if b0 = 0xFE#8 then 4
  else if b0.extractLsb' 6 2 = 0b10#2 then 2
  else 1

/-- The chunk at the head of a byte stream, and the rest of the stream. 0xFE and 0xFF are tested first, then the top two
bits (30_encoding.md R86); the biased fields are those of R87 to R92. -/
def decodeChunk : List Byte → Except DecodeReject (Instr × List Byte)
  | [] => .error .emptyChunk
  | b0 :: rest =>
    if b0 = 0xFE#8 then
      match rest with
      | r :: g :: b :: rest' => .ok (.rgb r g b, rest')
      | _ => .error .truncatedChunk
    else if b0 = 0xFF#8 then
      match rest with
      | r :: g :: b :: a :: rest' => .ok (.rgba (px r g b a), rest')
      | _ => .error .truncatedChunk
    else if b0.extractLsb' 6 2 = 0b00#2 then .ok (.index (b0.extractLsb' 0 6), rest)
    else if b0.extractLsb' 6 2 = 0b01#2 then
      .ok (.diff ((b0.extractLsb' 4 2).toNat - 2) ((b0.extractLsb' 2 2).toNat - 2) ((b0.extractLsb' 0 2).toNat - 2), rest)
    else if b0.extractLsb' 6 2 = 0b10#2 then
      match rest with
      | b1 :: rest' =>
        .ok (.luma ((b0.extractLsb' 0 6).toNat - 32) ((b1.extractLsb' 4 4).toNat - 8) ((b1.extractLsb' 0 4).toNat - 8),
          rest')
      | [] => .error .truncatedChunk
    else .ok (.run (b0.extractLsb' 0 6 + 1), rest)

/-- Exactly one chunk: nothing may follow it. -/
def decodeWholeChunk (bytes : List Byte) : Except DecodeReject Instr :=
  match decodeChunk bytes with
  | .error e => .error e
  | .ok (i, []) => .ok i
  | .ok (_, _ :: _) => .error .trailingBytes

/-- The instruction of an encoded form, with reserved command bits refused (30_encoding.md R85). -/
def decode : Fetched → Except DecodeReject Instr
  | .command w => decodeCommand w
  | .chunk bytes => decodeWholeChunk bytes

/-- The encoded form as the hardware reads it: reserved command bits are ignored (30_encoding.md R85). -/
def ignoreReserved : Fetched → Fetched
  | .command w => .command (clearReserved w)
  | .chunk bytes => .chunk bytes

/-- The instruction the machine reads, under its setting for reserved bits (log 2). -/
def readFetched : ReservedBits → Fetched → Except DecodeReject Instr
  | .refuse, f => decode f
  | .ignore, f => decode (ignoreReserved f)

/-! ## The encoder -/

/-- INDEX: `0b00 ‖ i[5:0]` (30_encoding.md R87). -/
def indexByte (i : Slot) : Byte := 0b00#2 ++ i

/-- DIFF: `0b01 ‖ (dr+2)[1:0] ‖ (dg+2)[1:0] ‖ (db+2)[1:0]` (30_encoding.md R88). -/
def diffByte (dr dg db : Int) : Byte :=
  0b01#2 ++ BitVec.ofInt 2 (dr + 2) ++ BitVec.ofInt 2 (dg + 2) ++ BitVec.ofInt 2 (db + 2)

/-- LUMA, first byte: `0b10 ‖ (dg+32)[5:0]` (30_encoding.md R89). -/
def lumaByte0 (dg : Int) : Byte := 0b10#2 ++ BitVec.ofInt 6 (dg + 32)

/-- LUMA, second byte: `(dr-dg+8)[3:0] ‖ (db-dg+8)[3:0]` (30_encoding.md R89). -/
def lumaByte1 (drg dbg : Int) : Byte := BitVec.ofInt 4 (drg + 8) ++ BitVec.ofInt 4 (dbg + 8)

/-- RUN: `0b11 ‖ (n-1)[5:0]` (30_encoding.md R90). -/
def runByte (n : BitVec 6) : Byte := 0b11#2 ++ (n - 1)

/-- The encoded form of an instruction (30_encoding.md R82 to R84, R87 to R92, R97). -/
def encode : Instr → Fetched
  | .init w h c cs s => .command (0b10#2 ++ 0#5 ++ BitVec.ofBool s ++ w ++ h ++ c ++ cs)
  | .pix p => .command (0b00#2 ++ 0#54 ++ p.pack)
  | .finish => .command (0b01#2 ++ 0#86)
  | .illegal => .command (0b11#2 ++ 0#86)
  | .index i => .chunk [indexByte i]
  | .diff dr dg db => .chunk [diffByte dr dg db]
  | .luma dg drg dbg => .chunk [lumaByte0 dg, lumaByte1 drg dbg]
  | .run n => .chunk [runByte n]
  | .rgb r g b => .chunk [0xFE#8, r, g, b]
  | .rgba p => .chunk [0xFF#8, p.R, p.G, p.B, p.A]

/-! ## The opcode table's numbering -/

/-- The low `n` bytes of `w`, the most significant first: a chunk row's number is "the chunk's bytes read as one
big-endian number, first byte most significant" (30_encoding.md, head). -/
def bigEndianBytes : Nat → Nat → List Byte
  | 0, _ => []
  | n + 1, w => BitVec.ofNat 8 (w / 256 ^ n) :: bigEndianBytes n w

/-- The bytes, followed by as many zero bytes as the first byte's chunk length still lacks. -/
def padChunk (bytes : List Byte) : List Byte :=
  match bytes with
  | [] => []
  | b0 :: _ => bytes ++ List.replicate (chunkLength b0 - bytes.length) 0#8

/-- The encoded form that a number of the opcode table stands for: CMD88 rows are one 88-bit word, chunk rows are their
bytes (log 14). -/
def tableFetched (nbits w : Nat) : Fetched :=
  if nbits = 88 then .command (BitVec.ofNat 88 w) else .chunk (padChunk (bigEndianBytes (nbits / 8) w))

/-- The instruction the decoder reads from a number of the opcode table. -/
def decodeTableWord (nbits w : Nat) : Option Instr :=
  match decode (tableFetched nbits w) with
  | .ok i => some i
  | .error _ => none

end Sys2Proof
end

