-- ==== Sys2Proof/Machine/State.lean ====
section
/-! DEFINITION. The state of one YAQOI-ENC instance (spec 10_state.md R20), the outside world as plain data, the reasons a
step can stop, and the state after reset (10_state.md R43). -/

namespace Sys2Proof.Machine

/-- `phase` (10_state.md R25). DEDUCED (log 11): the value 3 is never written, so it has no constructor. What a STATUS read
shows while BUSY = 1 is log 19. -/
inductive Phase where
  | idle
  | active
  | done
  deriving DecidableEq, Repr

/-- The six chunk kinds (10_state.md R30). -/
inductive Kind where
  | index
  | diff
  | luma
  | run
  | rgb
  | rgba
  deriving DecidableEq, Repr

/-- The four sticky status flags (10_state.md R32). -/
inductive StickyFlag where
  | illegalCmd
  | refusedPixel
  | refusedFinish
  | descInvalid
  deriving DecidableEq, Repr

/-- What the outside can do at the ports (10_state.md R39); the model's own type (log 6). DESIGN CHOICE (log 20): no event
takes an offered word back or changes it, so a word stands on the port until the block takes it; the spec does not say
whether a host may drop `cmd_valid` or change `cmd_data` before that. -/
inductive HostEvent where
  /-- nothing happens outside: the block makes one move -/
  | tick
  /-- the host puts a command word on `cmd_data`, behind any it already offers -/
  | offer (w : CommandWord)
  /-- the host drives `rd_addr` and takes `rd_data` -/
  | read (a : BitVec 5)
  /-- the sink sets `out_ready` -/
  | outReady (b : Bool)
  /-- the host sets `rst` -/
  | rst (b : Bool)
  deriving DecidableEq, Repr

/-- One register read as the host saw it (10_state.md R44). -/
structure ReadAnswer where
  addr : BitVec 5
  /-- BUSY at the moment of the read; only reads with BUSY = 0 are observations (R44) -/
  busy : Bool
  value : BitVec 64
  deriving DecidableEq, Repr

/-- The state. INVENTORY.md lists each field with its rule, width and reset value. -/
structure State where
  /-- the parameters; no step writes them (00_scope.md R6) -/
  cfg : Config
  /-- `cache[0..63]` (R21) -/
  cache : Vector Pixel 64
  /-- `last_px` (R23) -/
  lastPx : Pixel
  /-- `run` (R24) -/
  run : BitVec 6
  /-- `phase` (R25) -/
  phase : Phase
  /-- `stats_en` (R26) -/
  statsEn : Bool
  /-- `desc_width` (R27) -/
  descWidth : BitVec 32
  /-- `desc_height` (R27) -/
  descHeight : BitVec 32
  /-- `desc_channels` (R27) -/
  descChannels : Byte
  /-- `desc_colorspace` (R27) -/
  descColorspace : Byte
  /-- `stat_pixels` (R28) -/
  statPixels : BitVec 64
  /-- `stat_bits` (R28) -/
  statBits : BitVec 64
  /-- `stat_kpix[0..5]` (R29) -/
  statKpix : Vector (BitVec 64) 6
  /-- `stat_kbits[0..5]` (R29) -/
  statKbits : Vector (BitVec 64) 6
  /-- `ILLEGAL_CMD` (R32) -/
  illegalCmd : Bool
  /-- `REFUSED_PIXEL` (R32) -/
  refusedPixel : Bool
  /-- `REFUSED_FINISH` (R32) -/
  refusedFinish : Bool
  /-- `DESC_INVALID` (R32) -/
  descInvalid : Bool
  /-- `busy` (R42) -/
  busy : Bool
  /-- bytes emitted and not yet transferred; the head is `out_data` (R41, 70_reset_and_hazards.md R207) -/
  pending : List Byte
  /-- the sink: every byte transferred to it, oldest first (R44); not state of the block -/
  out : List Byte
  /-- the host: every register read it made, oldest first (R44); not state of the block -/
  reads : List ReadAnswer
  /-- level of the input `out_ready` (R39) -/
  outReady : Bool
  /-- level of the input `rst` (R39) -/
  rst : Bool
  /-- command words the host offers, the head on `cmd_data` (R39, R40); log 3 for chunks -/
  work : List Fetched
  /-- what the outside does next, in order (log 6) -/
  events : List HostEvent
  /-- how many free values have been taken (log 9) -/
  draws : Nat
  deriving DecidableEq, Repr

/-- No constructor: "YAQOI-ENC raises no synchronous exception. No command is aborted, and there is no trap"
(60_exceptions.md R180). DEDUCED (log 12): a protocol violation is a sticky flag and a next state (R181). -/
inductive Fault where
  deriving DecidableEq, Repr

/-- Why a step gives no meaning. Each is raised at decode; none is raised by a meaning. -/
inductive Refusal where
  /-- an instruction that has no meaning yet; raised by `exec`'s refused arms, of which there are none. Safe. -/
  | notModelled (mnemonic : String)
  /-- a command word with a reserved bit set, raised by the fetch when `cfg.reservedBits` is `refuse`. Safe: the hardware
  ignores the bits (30_encoding.md R85; log 2). -/
  | reservedBits
  /-- a list of bytes that is not exactly one chunk, raised by the fetch. Safe: no host can present one, and the block
  emits whole chunks only (log 3). -/
  | malformedChunk
  deriving DecidableEq, Repr

/-- What a meaning and a step answer. -/
abbrev Result := Host.Outcome State Fault Refusal

/-- Every piece of state at its reset value (10_state.md R43, 70_reset_and_hazards.md R200), nothing emitted, nothing
received, nothing offered, the sink ready (log 7), for an implementation with these parameters. -/
def State.resetWith (c : Config) : State where
  cfg := c
  cache := Vector.replicate 64 Pixel.zero
  lastPx := c.lastPxInit.pixel
  run := 0
  phase := .idle
  statsEn := false
  descWidth := 0
  descHeight := 0
  descChannels := 0
  descColorspace := 0
  statPixels := 0
  statBits := 0
  statKpix := Vector.replicate 6 0
  statKbits := Vector.replicate 6 0
  illegalCmd := false
  refusedPixel := false
  refusedFinish := false
  descInvalid := false
  busy := false
  pending := []
  out := []
  reads := []
  outReady := true
  rst := false
  work := []
  events := []
  draws := 0

/-- The machine right after reset, at the default parameters (log 1). -/
def State.reset : State := State.resetWith Config.default

end Sys2Proof.Machine
end

