-- ==== Sys2Proof/Machine/Operands.lean ====
section
/-! DEFINITION. The kind numbering (spec 10_state.md R30) and the pixel model: equality, hash and difference, and the
biased fields (spec 40_pixel_model.md R110 to R114, R118). Pure functions; no state. -/

namespace Sys2Proof.Machine

/-- Kind numbering, 0 to 5 (10_state.md R30). -/
def Kind.num : Kind → Fin 6
  | .index => 0
  | .diff => 1
  | .luma => 2
  | .run => 3
  | .rgb => 4
  | .rgba => 5

/-- `eq(p, q)`: all four channels agree (R110). -/
def eqPx (p q : Pixel) : Bool := p.R == q.R && p.G == q.G && p.B == q.B && p.A == q.A

/-- The integer sum of R111, before `mod 64`. -/
def hashSum (p : Pixel) : Nat := 3 * p.R.toNat + 5 * p.G.toNat + 7 * p.B.toNat + 11 * p.A.toNat

/-- `hash(p) = (3*R + 5*G + 7*B + 11*A) mod 64` (R111). -/
def hash (p : Pixel) : Slot := BitVec.ofNat 6 (hashSum p)

/-- `u8(v) = v mod 256` (00_scope.md R8). -/
def u8 (v : Int) : Int := v % 256

/-- `s8(v) = v if v < 128 else v - 256` (00_scope.md R8). -/
def s8 (v : Int) : Int := if v < 128 then v else v - 256

/-- `d8(a, b) = s8(u8(a - b))`, the wrapping signed difference of two channel values (R113). -/
def d8 (a b : Byte) : Int := s8 (u8 ((a.toNat : Int) - (b.toNat : Int)))

/-- A four-lane difference (R114). -/
structure Delta where
  dr : Int
  dg : Int
  db : Int
  da : Int
  deriving DecidableEq, Repr

/-- `diff(p, l)`, from the previous pixel l to the new pixel p, lane by lane (R114). -/
def diff (p l : Pixel) : Delta := ⟨d8 p.R l.R, d8 p.G l.G, d8 p.B l.B, d8 p.A l.A⟩

/-- `bias2(x) = x + 2` (R118). -/
def bias2 (x : Int) : Int := x + 2

/-- `bias32(x) = x + 32` (R118). -/
def bias32 (x : Int) : Int := x + 32

/-- `bias8(x) = x + 8` (R118). -/
def bias8 (x : Int) : Int := x + 8

end Sys2Proof.Machine
end

