-- ==== Sys2Proof/Machine/Flags.lean ====
section
/-! DEFINITION. The predicates of the chunk selector (spec 40_pixel_model.md R115, R116), the sticky status flags
(10_state.md R32) and the STATUS register (10_state.md R33). -/

namespace Sys2Proof.Machine

/-- `diff_ok(d)`, the small-delta condition (R115). -/
def diffOk (d : Delta) : Bool :=
  decide (d.da = 0) && inRange (-2) d.dr 1 && inRange (-2) d.dg 1 && inRange (-2) d.db 1

/-- `luma_ok(d)`, the luma condition; the cross deltas are integer subtractions (R116). -/
def lumaOk (d : Delta) : Bool :=
  decide (d.da = 0) && inRange (-32) d.dg 31 && inRange (-8) (d.dr - d.dg) 7 && inRange (-8) (d.db - d.dg) 7

/-- A legal descriptor: C in {3, 4} and CS in {0, 1} (41_engine.md R131). -/
def descLegal (c cs : Byte) : Bool := (c == 3 || c == 4) && (cs == 0 || cs == 1)

/-- `flag F`: sets one sticky status bit and changes nothing else (00_scope.md R12). -/
def State.raiseFlag (f : StickyFlag) (s : State) : State :=
  match f with
  | .illegalCmd => { s with illegalCmd := true }
  | .refusedPixel => { s with refusedPixel := true }
  | .refusedFinish => { s with refusedFinish := true }
  | .descInvalid => { s with descInvalid := true }

/-- STATUS[1:0] (10_state.md R33). -/
def Phase.code : Phase → BitVec 2
  | .idle => 0
  | .active => 1
  | .done => 2

/-- The STATUS register: PHASE [1:0], BUSY [2], STATS_EN [3], ILLEGAL_CMD [4], REFUSED_PIXEL [5], REFUSED_FINISH [6],
DESC_INVALID [7], and [63:8] read as 0 (10_state.md R33). -/
def State.statusWord (s : State) : BitVec 64 :=
  0#56 ++ BitVec.ofBool s.descInvalid ++ BitVec.ofBool s.refusedFinish ++ BitVec.ofBool s.refusedPixel
    ++ BitVec.ofBool s.illegalCmd ++ BitVec.ofBool s.statsEn ++ BitVec.ofBool s.busy ++ s.phase.code

end Sys2Proof.Machine
end

