-- ==== Sys2Proof/Machine/Ops.lean ====
section
/-! DEFINITION. The named operations over the state: the pixel cache, the run counter, emission, the reset event, the
register read port and the output port. -/

namespace Sys2Proof.Machine

/-! ## The pixel cache and the datapath registers -/

/-- `cache[i]` (00_scope.md R10). -/
def State.cacheAt (i : Slot) (s : State) : Pixel := s.cache[i.toNat]

/-- `cache[i] <- p`, the whole slot (20_memory.md R61). -/
def State.cacheStore (i : Slot) (p : Pixel) (s : State) : State := { s with cache := s.cache.set i.toNat p }

/-- `last_px <- p` (10_state.md R23). -/
def State.setLastPx (p : Pixel) (s : State) : State := { s with lastPx := p }

/-- `run <- n` (10_state.md R24). -/
def State.setRun (n : BitVec 6) (s : State) : State := { s with run := n }

/-- `phase <- ph` (10_state.md R25). -/
def State.setPhase (ph : Phase) (s : State) : State := { s with phase := ph }

/-! ## Emission -/

/-- `Emit(b)` for each byte in order: appended to the end of the output (00_scope.md R11). They wait in `pending` until
the sink takes them (10_state.md R41). -/
def State.emitBytes (bytes : List Byte) (s : State) : State := { s with pending := s.pending ++ bytes }

/-- The statistics update of one chunk: four additions modulo 2^64, made only when `stats_en` = 1 (42_chunk_writer.md
R160). -/
def State.countChunk (k : Kind) (nbytes npix : Nat) (s : State) : State :=
  if s.statsEn then
    { s with
      statBits := s.statBits + BitVec.ofNat 64 (8 * nbytes)
      statPixels := s.statPixels + BitVec.ofNat 64 npix
      statKpix := s.statKpix.set k.num (s.statKpix[k.num] + BitVec.ofNat 64 npix)
      statKbits := s.statKbits.set k.num (s.statKbits[k.num] + BitVec.ofNat 64 (8 * nbytes)) }
  else s

/-- `EmitChunk(k, bytes, npix)` (42_chunk_writer.md R160). -/
def State.emitChunk (k : Kind) (bytes : List Byte) (npix : Nat) (s : State) : State :=
  (s.emitBytes bytes).countChunk k bytes.length npix

/-- `EmitIndex(h)` (42_chunk_writer.md R161). -/
def State.emitIndex (h : Slot) (s : State) : State := s.emitChunk .index [0x00#8 ||| h.setWidth 8] 1

/-- `EmitDiff(d)` (42_chunk_writer.md R162). -/
def State.emitDiff (dr dg db : Int) (s : State) : State :=
  s.emitChunk .diff
    [0x40#8 ||| (BitVec.ofInt 8 (bias2 dr) <<< 4) ||| (BitVec.ofInt 8 (bias2 dg) <<< 2) ||| BitVec.ofInt 8 (bias2 db)] 1

/-- `EmitLuma(d)`, from the green delta and the two cross deltas (42_chunk_writer.md R163). -/
def State.emitLuma (dg drg dbg : Int) (s : State) : State :=
  s.emitChunk .luma
    [0x80#8 ||| BitVec.ofInt 8 (bias32 dg), (BitVec.ofInt 8 (bias8 drg) <<< 4) ||| BitVec.ofInt 8 (bias8 dbg)] 1

/-- `EmitRun(n)`; the chunk represents n pixels (42_chunk_writer.md R164). -/
def State.emitRun (n : BitVec 6) (s : State) : State := s.emitChunk .run [0xC0#8 ||| (n.setWidth 8 - 1)] n.toNat

/-- `EmitRGB(p)`; no alpha is emitted (42_chunk_writer.md R165). -/
def State.emitRgb (r g b : Byte) (s : State) : State := s.emitChunk .rgb [0xFE#8, r, g, b] 1

/-- `EmitRGBA(p)` (42_chunk_writer.md R166). -/
def State.emitRgba (p : Pixel) (s : State) : State := s.emitChunk .rgba [0xFF#8, p.R, p.G, p.B, p.A] 1

/-- `if run > 0: EmitRun(run); run <- 0`, the flush of step 2 and of FINISH (41_engine.md R134, R141). -/
def State.flushRun (s : State) : State := if s.run = 0 then s else (s.emitRun s.run).setRun 0

/-! ## Start of a stream, and reset -/

/-- What INIT and reset do alike: every slot zero, `last_px` and `run` at their start values, every counter zero
(41_engine.md R131, 70_reset_and_hazards.md R202). -/
def State.clearStream (s : State) : State :=
  { s with
    cache := Vector.replicate 64 Pixel.zero
    lastPx := s.cfg.lastPxInit.pixel
    run := 0
    statPixels := 0
    statBits := 0
    statKpix := Vector.replicate 6 0
    statKbits := Vector.replicate 6 0 }

/-- The bytes that still reach the sink when reset abandons a command: none when none is waiting, else a prefix of free
length, 0 to all of them (70_reset_and_hazards.md R201; log 10). -/
def State.abandonedPrefix (s : State) : List Byte :=
  match s.pending with
  | [] => []
  | b :: rest => (b :: rest).take (Config.freePrefix s.draws % (rest.length + 2))

/-- The reset event: every piece of the block's state takes its reset value, whatever the command in progress had done
(70_reset_and_hazards.md R200, R201). What belongs to the host and the sink stays theirs (log 16). -/
def State.applyReset (s : State) : State :=
  { State.resetWith s.cfg with
    out := s.out ++ s.abandonedPrefix
    reads := s.reads
    outReady := s.outReady
    rst := s.rst
    work := s.work
    events := s.events
    draws := s.draws + 1 }

/-- The pin `rst` takes a level. State is at its reset values "While `rst` is asserted, and when it is released"
(70_reset_and_hazards.md R200). -/
def State.setRst (b : Bool) (s : State) : State :=
  if b || s.rst then { s.applyReset with rst := b } else { s with rst := b }

/-! ## The register read port -/

/-- The register read map; reserved addresses read 0 (10_state.md R34). -/
def State.readReg (a : BitVec 5) (s : State) : BitVec 64 :=
  if a = 0x00 then s.statusWord
  else if a = 0x01 then s.descWidth.setWidth 64
  else if a = 0x02 then s.descHeight.setWidth 64
  else if a = 0x03 then (s.descChannels ++ s.descColorspace).setWidth 64
  else if a = 0x04 then s.statPixels
  else if a = 0x05 then s.statBits
  else if h : 0x08 ≤ a.toNat ∧ a.toNat ≤ 0x0D then s.statKpix[a.toNat - 0x08]
  else if h : 0x10 ≤ a.toNat ∧ a.toNat ≤ 0x15 then s.statKbits[a.toNat - 0x10]
  else 0

/-- What the host gets from a read while BUSY = 1: any 64-bit value, but STATUS.BUSY is exact (70_reset_and_hazards.md
R206; log 9). DESIGN CHOICE (log 19): R206 is followed for every other bit, so a reserved address and reserved bits need not
read 0, PHASE may read 3, and counters need not read 0 with statistics off, where R33 to R35, R167 and U14, U15 say
otherwise without naming BUSY. -/
def State.busyRead (a : BitVec 5) (s : State) : BitVec 64 :=
  if a = 0x00 then Config.freeRead s.draws ||| 0x4#64 else Config.freeRead s.draws

/-- A register read: no side effect on the block; the answer goes to the host (10_state.md R35, R206). -/
def State.readPort (a : BitVec 5) (s : State) : State :=
  if s.busy then { s with reads := s.reads ++ [⟨a, true, s.busyRead a⟩], draws := s.draws + 1 }
  else { s with reads := s.reads ++ [⟨a, false, s.readReg a⟩] }

/-! ## The command and output ports -/

/-- `cmd_ready`: 0 while busy = 1 or reset is in progress (10_state.md R39, R40). -/
def State.cmdReady (s : State) : Bool := !s.busy && !s.rst

/-- `cmd_valid` (10_state.md R39). -/
def State.cmdValid (s : State) : Bool := !s.work.isEmpty

/-- `out_valid` (10_state.md R39). -/
def State.outValid (s : State) : Bool := !s.pending.isEmpty

/-- The host offers one more word, behind those it offers already (10_state.md R40; log 6). -/
def State.offerCommand (w : CommandWord) (s : State) : State := { s with work := s.work ++ [.command w] }

/-- One output transfer: the first waiting byte goes to the sink, and the command is complete when it was the last
(10_state.md R41, R42). -/
def State.transferByte (b : Byte) (rest : List Byte) (s : State) : State :=
  { s with out := s.out ++ [b], pending := rest, busy := !rest.isEmpty }

/-- A command that emitted no byte completes (10_state.md R42; log 5). -/
def State.completeCommand (s : State) : State := { s with busy := false }

/-- `busy` becomes 1 and the accepted word leaves the command port (10_state.md R40, R42). -/
def State.accept (rest : List Fetched) (s : State) : State := { s with work := rest, busy := true }

/-- The next encoded instruction stands where the machine takes it from, and nothing holds the machine back from taking it
at its next move: no reset, no command in progress, and a tick as the outside's next move (log 6). -/
def State.placeFetched (f : Fetched) (s : State) : State :=
  { s with work := f :: s.work, events := .tick :: s.events, busy := false, pending := [], rst := false }

end Sys2Proof.Machine
end

