-- ==== Sys2Proof/Machine/ChunkWriter.lean ====
section
/-! DEFINITION. The meanings of the six chunk rows: the chunk writer serialises a chunk already chosen and updates the
statistics, with no decision logic (spec 42_chunk_writer.md R161 to R166; log 3). -/

namespace Sys2Proof.Machine

/-- INDEX: `EmitIndex(i)` (R161). -/
def execIndex (i : Slot) (s : State) : Result := .next (s.emitIndex i)

/-- DIFF: `EmitDiff` (R162). -/
def execDiff (dr dg db : Int) (s : State) : Result := .next (s.emitDiff dr dg db)

/-- LUMA: `EmitLuma` (R163). -/
def execLuma (dg drg dbg : Int) (s : State) : Result := .next (s.emitLuma dg drg dbg)

/-- RUN: `EmitRun(n)` (R164). The run counter itself belongs to the engine and is not written. -/
def execRun (n : BitVec 6) (s : State) : Result := .next (s.emitRun n)

/-- RGB: `EmitRGB` (R165). -/
def execRgb (r g b : Byte) (s : State) : Result := .next (s.emitRgb r g b)

/-- RGBA: `EmitRGBA` (R166). -/
def execRgba (p : Pixel) (s : State) : Result := .next (s.emitRgba p)

end Sys2Proof.Machine
end

