-- ==== Sys2Proof/Machine/Engine.lean ====
section
/-! DEFINITION. The meanings of the four commands: INIT, PIXEL, FINISH and the reserved op (spec 41_engine.md R131 to
R143). -/

namespace Sys2Proof.Machine

/-- INIT: a new stream, from any phase; the descriptor is stored as given and an illegal one sets DESC_INVALID (R131). -/
def execInit (w h : BitVec 32) (c cs : Byte) (s : Bool) (σ : State) : Result :=
  let σ1 := { σ.clearStream with
    statsEn := s, descWidth := w, descHeight := h, descChannels := c, descColorspace := cs, phase := .active }
  .next (if descLegal c cs then σ1 else σ1.raiseFlag .descInvalid)

/-- Step 1 of PIXEL, for a pixel equal to `last_px`: the run goes on, and is flushed when it reaches 62 (R133). -/
def State.continueRun (s : State) : State :=
  let s1 := s.setRun (s.run + 1)
  if s1.run = runMax then (s1.emitRun runMax).setRun 0 else s1

/-- Steps 5 to 7 of PIXEL: the first of DIFF, LUMA, RGB and RGBA that fits (R137, R138, R139). `last_px` is still the
previous pixel. -/
def State.emitDelta (p : Pixel) (s : State) : State :=
  let d := diff p s.lastPx
  if diffOk d then s.emitDiff d.dr d.dg d.db
  else if lumaOk d then s.emitLuma d.dg (d.dr - d.dg) (d.db - d.dg)
  else if d.da = 0 then s.emitRgb p.R p.G p.B
  else s.emitRgba p

/-- Steps 3 to 7 of PIXEL, for a pixel that differs from `last_px` and with no run pending: a cache hit gives INDEX; a
miss stores the pixel and codes it; either way it becomes `last_px` (R135 to R139). -/
def State.encodePixel (p : Pixel) (s : State) : State :=
  let h := hash p
  if eqPx (s.cacheAt h) p then (s.emitIndex h).setLastPx p
  else ((s.cacheStore h p).emitDelta p).setLastPx p

/-- PIXEL: refused outside ACTIVE, else the seven steps in their order (R132, R143). -/
def execPix (p : Pixel) (s : State) : Result :=
  if s.phase ≠ .active then .next (s.raiseFlag .refusedPixel)
  else if eqPx p s.lastPx then .next s.continueRun
  else .next (s.flushRun.encodePixel p)

/-- FINISH: refused in IDLE, nothing in DONE, in ACTIVE the final flush and DONE (R141). -/
def execFinish (s : State) : Result :=
  match s.phase with
  | .idle => .next (s.raiseFlag .refusedFinish)
  | .done => .next s
  | .active => .next (s.flushRun.setPhase .done)

/-- The reserved op 0b11: its sticky flag and nothing else, in every phase (R142). -/
def execIllegal (s : State) : Result := .next (s.raiseFlag .illegalCmd)

end Sys2Proof.Machine
end

