-- ==== Sys2Proof/Machine/Dispatch.lean ====
section
/-! DEFINITION. The one match over the instructions: each arm is one call of its meaning. -/

namespace Sys2Proof.Machine

def exec (i : Instr) (s : State) : Host.Outcome State Fault Refusal :=
  match i with
  -- commands (41_engine.md)
  | .init w h c cs en => Sys2Proof.Machine.execInit w h c cs en s
  | .pix p => Sys2Proof.Machine.execPix p s
  | .finish => Sys2Proof.Machine.execFinish s
  | .illegal => Sys2Proof.Machine.execIllegal s
  -- chunks (42_chunk_writer.md)
  | .index k => Sys2Proof.Machine.execIndex k s
  | .diff dr dg db => Sys2Proof.Machine.execDiff dr dg db s
  | .luma dg drg dbg => Sys2Proof.Machine.execLuma dg drg dbg s
  | .run n => Sys2Proof.Machine.execRun n s
  | .rgb r g b => Sys2Proof.Machine.execRgb r g b s
  | .rgba p => Sys2Proof.Machine.execRgba p s

end Sys2Proof.Machine
end

