-- ==== Sys2Proof/Machine/Sequencer.lean ====
section
/-! DEFINITION. What moves at a step: the block (one output transfer, or the completion of a command, or the acceptance of
the next one) or the outside (spec 10_state.md R40 to R42, 70_reset_and_hazards.md R200 to R207; log 6). -/

namespace Sys2Proof.Machine

/-- The refusal a decoder's rejection stands for. -/
def refusalOf : DecodeReject → Refusal
  | .reservedBits => .reservedBits
  | .emptyChunk => .malformedChunk
  | .truncatedChunk => .malformedChunk
  | .trailingBytes => .malformedChunk

/-- The accepted word is decoded and its instruction run, as one atomic step of the state (41_engine.md R130). -/
def runFetched (f : Fetched) (s : State) : Result :=
  match readFetched s.cfg.reservedBits f with
  | .ok i => exec i s
  | .error e => .refused (refusalOf e)

/-- One move of the block. In reset nothing moves. A waiting byte is transferred if the sink is ready, and otherwise the
block waits, unchanged (R207). With no byte waiting a command in progress completes. An idle block accepts the next command
on the port (R40), and holds its state if there is none (60_exceptions.md R190). -/
def State.blockMove (s : State) : Result :=
  if s.rst then .next s
  else
    match s.pending with
    | b :: rest => if s.outReady then .next (s.transferByte b rest) else .next s
    | [] =>
      if s.busy then .next s.completeCommand
      else
        match s.work with
        | [] => .next s
        | f :: fs => runFetched f (s.accept fs)

/-- One move of the outside, or the block's turn. -/
def State.hostMove (e : HostEvent) (s : State) : Result :=
  match e with
  | .tick => s.blockMove
  | .offer w => .next (s.offerCommand w)
  | .read a => .next (s.readPort a)
  | .outReady b => .next { s with outReady := b }
  | .rst b => .next (s.setRst b)

end Sys2Proof.Machine
end

