-- ==== Sys2Proof/Machine/Step.lean ====
section
/-! DEFINITION. One step of the machine: the outside's next move if one is listed, else a move of the block. -/

namespace Sys2Proof.Machine

/-- One step (log 6). -/
def step (s : State) : Host.Outcome State Fault Refusal :=
  match s.events with
  | [] => s.blockMove
  | e :: es => State.hostMove e { s with events := es }

/-- The state with an instruction of the opcode table placed as the very next one to run (log 6, log 14). -/
def State.withFetchWord (s : State) (nbits w : Nat) : State := s.placeFetched (tableFetched nbits w)

end Sys2Proof.Machine
end

