-- ==== Sys2Proof/Safety.lean ====
section
/-! DEFINITION. The terms claims use: what one emitted chunk does, runs of commands, the invariant of the machine, what an
outsider observes (spec 10_state.md R44), and the reference decoder of the round-trip contract (41_engine.md R148). -/

namespace Sys2Proof.Safety

open Sys2Proof.Machine

/-! ## One emitted chunk -/

/-- From `s` to `t` exactly one chunk of kind `k` was emitted, representing `npix` pixels: its bytes at the end of the
output, the four statistics updates when they are enabled, and nothing else (42_chunk_writer.md R160). -/
structure ChunkWritten (k : Kind) (bytes : List Byte) (npix : Nat) (s t : State) : Prop where
  bytes_appended : t.pending = s.pending ++ bytes
  bits_counted : t.statBits = if s.statsEn then s.statBits + BitVec.ofNat 64 (8 * bytes.length) else s.statBits
  pixels_counted : t.statPixels = if s.statsEn then s.statPixels + BitVec.ofNat 64 npix else s.statPixels
  kind_pixels_counted : ∀ j : Fin 6, t.statKpix[j] =
    if s.statsEn ∧ j = k.num then s.statKpix[j] + BitVec.ofNat 64 npix else s.statKpix[j]
  kind_bits_counted : ∀ j : Fin 6, t.statKbits[j] =
    if s.statsEn ∧ j = k.num then s.statKbits[j] + BitVec.ofNat 64 (8 * bytes.length) else s.statKbits[j]
  rest_unchanged : t = { s with
    pending := t.pending, statBits := t.statBits, statPixels := t.statPixels, statKpix := t.statKpix,
    statKbits := t.statKbits }

/-- The pixel `p` is the incoming pixel of a stream in progress, differs from `last_px`, and no run is pending: PIXEL
begins at step 3 (41_engine.md R132). -/
structure AtLookup (p : Pixel) (s : State) : Prop where
  active : s.phase = .active
  differs : p ≠ s.lastPx
  noRun : s.run = 0

/-- The pixel `p` misses the cache as well: PIXEL begins at step 4 (41_engine.md R136). -/
structure AtMiss (p : Pixel) (s : State) : Prop extends AtLookup p s where
  miss : s.cacheAt (hash p) ≠ p

/-! ## Runs of commands -/

/-- Commands processed one after the other, each as one atomic step (41_engine.md R130). -/
def runCommands : List Instr → State → Result
  | [], s => .next s
  | i :: is, s =>
    match exec i s with
    | .next t => runCommands is t
    | .fault r => .fault r
    | .refused r => .refused r

/-- A stream: INIT, pixels, FINISH (70_reset_and_hazards.md R203 steps 3 to 5). -/
def streamOf (w h : BitVec 32) (c cs : Byte) (en : Bool) (ps : List Pixel) : List Instr :=
  .init w h c cs en :: (ps.map .pix ++ [.finish])

/-- The pixels a list of commands offers, in order. -/
def pixelsOf : List Instr → List Pixel
  | [] => []
  | .pix p :: is => p :: pixelsOf is
  | _ :: is => pixelsOf is

/-- PIXEL or the reserved op: the commands that can stand inside a stream without ending or restarting it. -/
def isPixOrIllegal : Instr → Bool
  | .pix _ => true
  | .illegal => true
  | _ => false

/-- Starts a new stream. -/
def isInit : Instr → Bool
  | .init .. => true
  | _ => false

/-- Bit `j` of the command word `w` is reserved (30_encoding.md R85). -/
def reservedAt (w : CommandWord) (j : Nat) : Prop :=
  (81 ≤ j ∧ j ≤ 85) ∨ (w.extractLsb' 86 2 = 0b00#2 ∧ 32 ≤ j ∧ j ≤ 80) ∨
    ((w.extractLsb' 86 2 = 0b01#2 ∨ w.extractLsb' 86 2 = 0b11#2) ∧ j ≤ 85)

/-- `bits(k)`, the chunk length of kind number k in bits (10_state.md R30, 30_encoding.md R93). -/
def kindBits : Fin 6 → Nat := fun k => [8, 8, 16, 8, 32, 40][k]

/-- `k` steps of the machine. -/
def runSteps (k : Nat) (s : State) : Result := Host.Core.run Sys2Proof.core k s

/-! ## The invariant -/

/-- The sum of the six counters of a kind array, modulo 2^64. -/
def sum6 (v : Vector (BitVec 64) 6) : BitVec 64 := v[0] + v[1] + v[2] + v[3] + v[4] + v[5]

/-- What holds of the machine between any two steps. -/
structure Inv (s : State) : Prop where
  /-- the run counter is in 0..61 (10_state.md R24) -/
  run_bound : s.run.toNat ≤ 61
  /-- a run is pending only while a stream is ACTIVE (10_state.md R24) -/
  run_active : s.run ≠ 0 → s.phase = .active
  /-- a slot holds the zero pixel or a pixel whose hash is its index (10_state.md R22) -/
  slots_hashed : ∀ i : Slot, s.cacheAt i = Pixel.zero ∨ hash (s.cacheAt i) = i
  /-- total pixels is the sum of the kinds' pixels (10_state.md R31) -/
  pixels_sum : s.statPixels = sum6 s.statKpix
  /-- total bits is the sum of the kinds' bits (10_state.md R31) -/
  bits_sum : s.statBits = sum6 s.statKbits
  /-- with statistics off, every counter reads 0 (42_chunk_writer.md R167) -/
  stats_off : s.statsEn = false →
    s.statPixels = 0 ∧ s.statBits = 0 ∧ (∀ j : Fin 6, s.statKpix[j] = 0) ∧ ∀ j : Fin 6, s.statKbits[j] = 0
  /-- a byte waits only while a command is in progress (10_state.md R42) -/
  pending_busy : s.pending ≠ [] → s.busy = true
  /-- while reset is asserted the block is idle in its reset state (70_reset_and_hazards.md R200) -/
  reset_held : s.rst = true → s.busy = false ∧ s.phase = .idle
  /-- only commands stand on the command port (10_state.md R40; log 3) -/
  work_commands : ∀ f ∈ s.work, f.isCommand = true

/-! ## What an outsider observes -/

/-- The observation of a run: the bytes transferred to the sink, and the register reads made while BUSY = 0 (10_state.md
R44). -/
def observed (s : State) : List Byte × List ReadAnswer := (s.out, s.reads.filter fun r => !r.busy)

/-! ## The reference decoder

The decoder of the round-trip contract, as 41_engine.md R148 sketches it. PRESUMED (log 17): the spec marks the sketch as
general knowledge, and decoding is not part of the block (00_scope.md R5). -/

/-- The decoder's own 64-slot cache of decoded pixels, and the previous pixel. -/
structure RefDecoder where
  cache : Vector Pixel 64
  prev : Pixel
  deriving DecidableEq, Repr

/-- "starting from the same `LAST_PX_INIT` and a zeroed cache" -/
def RefDecoder.start (l : LastPxInit) : RefDecoder := ⟨Vector.replicate 64 Pixel.zero, l.pixel⟩

/-- The decoded pixel becomes the previous one and enters the cache at its hash. -/
def RefDecoder.store (d : RefDecoder) (p : Pixel) : RefDecoder := ⟨d.cache.set (hash p).toNat p, p⟩

/-- "the previous pixel plus the deltas modulo 256" -/
def plusDelta (p : Pixel) (dr dg db : Int) : Pixel :=
  px (p.R + BitVec.ofInt 8 dr) (p.G + BitVec.ofInt 8 dg) (p.B + BitVec.ofInt 8 db) p.A

/-- The pixels one chunk stands for. -/
def RefDecoder.pixels (d : RefDecoder) : Instr → List Pixel
  | .index i => [d.cache[i.toNat]]
  | .diff dr dg db => [plusDelta d.prev dr dg db]
  | .luma dg drg dbg => [plusDelta d.prev (dg + drg) dg (dg + dbg)]
  | .run n => List.replicate n.toNat d.prev
  | .rgb r g b => [px r g b d.prev.A]
  | .rgba p => [p]
  | .init .. => []
  | .pix _ => []
  | .finish => []
  | .illegal => []

/-- Chunk after chunk, `fuel` chunks at most; none if the bytes are not a sequence of whole chunks. -/
def refDecodeFrom : Nat → List Byte → RefDecoder → Option (List Pixel)
  | _, [], _ => some []
  | 0, _ :: _, _ => none
  | fuel + 1, b :: bs, d =>
    match decodeChunk (b :: bs) with
    | .error _ => none
    | .ok (i, rest) =>
      match refDecodeFrom fuel rest ((d.pixels i).foldl RefDecoder.store d) with
      | none => none
      | some qs => some (d.pixels i ++ qs)

/-- The pixels a stream of chunk bytes stands for. -/
def refDecode (l : LastPxInit) (bytes : List Byte) : Option (List Pixel) :=
  refDecodeFrom bytes.length bytes (RefDecoder.start l)

end Sys2Proof.Safety
end

