-- ==== Sys2Proof/Certificates/Slice0/Obligations.lean ====
section
/-! DEFINITION. The statements for the provers. `cfg.lastPxInit` is never fixed: every statement holds for both values of
`LAST_PX_INIT`. Statements that name `cache`, `last_px` or `run` are about the model's state; the statements about what an
outsider sees (spec 10_state.md R38, R44) are those on bytes, reads and whole streams. -/

open Sys2Proof Sys2Proof.Machine Sys2Proof.Safety

/-! ## Encoding -/

/-- Every well-formed instruction is read back from its encoded form (30_encoding.md, both sections). -/
def Obligations.DecodeOfEncodeIsTheInstruction : Prop :=
  ∀ i : Instr, WellFormed i → decode (encode i) = .ok i

/-- Every encoded form that decodes has one meaning, and is the encoding of it: no word or chunk is a second spelling. -/
def Obligations.EncodeOfDecodeIsTheForm : Prop :=
  ∀ (f : Fetched) (i : Instr), decode f = .ok i → WellFormed i ∧ encode i = f

/-- A chunk is found at the head of any byte stream and the rest is left; its length is what its first byte alone says
(30_encoding.md R94). -/
def Obligations.ChunkSplitsOffByItsFirstByte : Prop :=
  (∀ (i : Instr) (bytes rest : List Byte), WellFormed i → encode i = .chunk bytes →
    decodeChunk (bytes ++ rest) = .ok (i, rest)) ∧
  (∀ (b0 : Byte) (tl rest : List Byte) (i : Instr), decodeChunk (b0 :: tl) = .ok (i, rest) →
    ∃ n, n + 1 = (if b0 = 0xFF#8 then 5 else if b0 = 0xFE#8 then 4 else if b0.extractLsb' 6 2 = 0b10#2 then 2 else 1) ∧
      rest = tl.drop n ∧ n ≤ tl.length)

/-- The first bytes of the six chunks partition the byte range (30_encoding.md R95). -/
def Obligations.FirstBytesOfChunksPartition : Prop :=
  ∀ (i : Instr) (b0 : Byte) (tl : List Byte), WellFormed i → encode i = .chunk (b0 :: tl) →
    ((∃ k, i = .index k) ↔ b0.toNat ≤ 0x3F) ∧
    ((∃ dr dg db, i = .diff dr dg db) ↔ 0x40 ≤ b0.toNat ∧ b0.toNat ≤ 0x7F) ∧
    ((∃ dg drg dbg, i = .luma dg drg dbg) ↔ 0x80 ≤ b0.toNat ∧ b0.toNat ≤ 0xBF) ∧
    ((∃ n, i = .run n) ↔ 0xC0 ≤ b0.toNat ∧ b0.toNat ≤ 0xFD) ∧
    ((∃ r g b, i = .rgb r g b) ↔ b0 = 0xFE#8) ∧
    ((∃ p, i = .rgba p) ↔ b0 = 0xFF#8)

/-- The op field selects the command, with the top byte of R81's table (30_encoding.md R81). The clauses on the top byte
hold of the words that decode under the refuse reading of reserved bits, the model's choice (notes/assumptions/2.md). -/
def Obligations.OpFieldSelectsTheCommand : Prop :=
  ∀ (w : CommandWord) (i : Instr), decodeCommand w = .ok i →
    (w.extractLsb' 86 2 = 0b00#2 ↔ ∃ p, i = .pix p) ∧
    (w.extractLsb' 86 2 = 0b01#2 ↔ i = .finish) ∧
    (w.extractLsb' 86 2 = 0b10#2 ↔ ∃ W H C CS S, i = .init W H C CS S) ∧
    (w.extractLsb' 86 2 = 0b11#2 ↔ i = .illegal) ∧
    (∀ p, i = .pix p → w.extractLsb' 80 8 = 0x00#8) ∧
    (i = .finish → w.extractLsb' 80 8 = 0x40#8) ∧
    (∀ W H C CS S, i = .init W H C CS S → w.extractLsb' 80 8 = if S then 0x81#8 else 0x80#8) ∧
    (i = .illegal → w.extractLsb' 80 8 = 0xC0#8)

/-- Where each operand of a command word stands (30_encoding.md R82, R83, R84). That a decoded PIXEL word has bits [80:32]
clear and that FINISH decodes from its canonical word only hold under the refuse reading of reserved bits (R85), the model's
choice (notes/assumptions/2.md): the hardware ignores those bits. -/
def Obligations.OperandsAssembledFromTheirFields : Prop :=
  (∀ (w : CommandWord) (p : Pixel), decodeCommand w = .ok (.pix p) →
    p.R = w.extractLsb' 24 8 ∧ p.G = w.extractLsb' 16 8 ∧ p.B = w.extractLsb' 8 8 ∧ p.A = w.extractLsb' 0 8 ∧
      w.extractLsb' 32 49 = 0) ∧
  decodeCommand 0x000000000000000A141EFF#88 = .ok (.pix (px 10 20 30 255)) ∧
  (∀ (w : CommandWord) W H C CS S, decodeCommand w = .ok (.init W H C CS S) →
    S = w.getLsbD 80 ∧ W = w.extractLsb' 48 32 ∧ H = w.extractLsb' 16 32 ∧ C = w.extractLsb' 8 8 ∧
      CS = w.extractLsb' 0 8) ∧
  decodeCommand 0x8100000002000000020300#88 = .ok (.init 2 2 3 0 true) ∧
  (∀ w : CommandWord, decodeCommand w = .ok .finish ↔ w = 0x4000000000000000000000#88)

/-- Reserved bits: the hardware ignores them, the model refuses at decode, and which bits they are depends on the op; op
0b11 only sets ILLEGAL_CMD (30_encoding.md R85). -/
def Obligations.ReservedBitsRefusedOrIgnored : Prop :=
  (∀ w : CommandWord, decodeCommand w = .error .reservedBits ↔ ∃ j, reservedAt w j ∧ w.getLsbD j = true) ∧
  (∀ w : CommandWord, (∀ j, reservedAt w j → w.getLsbD j = false) → ∃ i, decodeCommand w = .ok i) ∧
  (∀ w : CommandWord, ∃ i, readFetched .ignore (.command w) = .ok i) ∧
  (∀ w w' : CommandWord, (∀ j, j < 88 → ¬ reservedAt w j → w.getLsbD j = w'.getLsbD j) →
    readFetched .ignore (.command w) = readFetched .ignore (.command w')) ∧
  (∀ w : CommandWord, w.extractLsb' 86 2 = 0b11#2 → readFetched .ignore (.command w) = .ok .illegal) ∧
  ∀ s : State, exec .illegal s = .next { s with illegalCmd := true }

/-- The bytes of each chunk kind, with the examples of the rules (30_encoding.md R87 to R92). -/
def Obligations.ChunkBytesAreTheTables : Prop :=
  (∀ i : Slot, encode (.index i) = .chunk [BitVec.ofNat 8 i.toNat]) ∧
  (∀ dr dg db : Int, WellFormed (.diff dr dg db) →
    encode (.diff dr dg db) = .chunk [BitVec.ofInt 8 (64 + 16 * (dr + 2) + 4 * (dg + 2) + (db + 2))]) ∧
  (∀ dg drg dbg : Int, WellFormed (.luma dg drg dbg) →
    encode (.luma dg drg dbg) =
      .chunk [BitVec.ofInt 8 (128 + (dg + 32)), BitVec.ofInt 8 (16 * (drg + 8) + (dbg + 8))]) ∧
  (∀ n : BitVec 6, WellFormed (.run n) → encode (.run n) = .chunk [BitVec.ofNat 8 (192 + (n.toNat - 1))]) ∧
  (∀ r g b : Byte, encode (.rgb r g b) = .chunk [0xFE, r, g, b]) ∧
  (∀ p : Pixel, encode (.rgba p) = .chunk [0xFF, p.R, p.G, p.B, p.A]) ∧
  (∀ (i : Instr) (b0 : Byte) (tl : List Byte), WellFormed i → encode i = .chunk (b0 :: tl) →
    (∀ k, i = .index k → b0.toNat ≤ 0x3F) ∧
    (∀ dr dg db, i = .diff dr dg db → 0x40 ≤ b0.toNat ∧ b0.toNat ≤ 0x7F) ∧
    (∀ dg drg dbg, i = .luma dg drg dbg → 0x80 ≤ b0.toNat ∧ b0.toNat ≤ 0xBF) ∧
    (∀ n, i = .run n → 0xC0 ≤ b0.toNat ∧ b0.toNat ≤ 0xFD)) ∧
  encode (.index 9) = .chunk [0x09] ∧
  encode (.diff 1 (-2) 1) = .chunk [0x73] ∧
  encode (.luma 31 7 0) = .chunk [0xBF, 0xF8] ∧
  encode (.run 1) = .chunk [0xC0] ∧ encode (.run 3) = .chunk [0xC2] ∧ encode (.run 62) = .chunk [0xFD] ∧
  encode (.rgb 10 20 30) = .chunk [0xFE, 0x0A, 0x14, 0x1E] ∧
  encode (.rgba (px 0 0 0 254)) = .chunk [0xFF, 0x00, 0x00, 0x00, 0xFE]

/-- Words of the opcode table written out from the encodings (95_test_vectors.md section 3 and section 2). -/
def Obligations.TableWordsDecodeToTheirInstructions : Prop :=
  decodeTableWord 88 0x000000000000000A141EFF = some (.pix (px 10 20 30 255)) ∧
  decodeTableWord 88 0x8000000004000000010400 = some (.init 4 1 4 0 false) ∧
  decodeTableWord 88 0x4000000000000000000000 = some .finish ∧
  decodeTableWord 88 0xC000000000000000000000 = some .illegal ∧
  decodeTableWord 88 0xC100000000000000000000 = none ∧
  decodeTableWord 8 0x3F = some (.index 63) ∧
  decodeTableWord 8 0x40 = some (.diff (-2) (-2) (-2)) ∧
  decodeTableWord 16 0xA266 = some (.luma 2 (-2) (-2)) ∧
  decodeTableWord 8 0xFD = some (.run 62) ∧
  decodeTableWord 32 0xFE261F33 = some (.rgb 38 31 51) ∧
  decodeTableWord 40 0xFF656464FE = some (.rgba (px 101 100 100 254))

/-! ## The pixel model -/

/-- Equality is over all four channels, and is equality of the packed forms (40_pixel_model.md R110). -/
def Obligations.PixelEqualityIsAllFourChannels : Prop :=
  (∀ p q : Pixel, eqPx p q = true ↔ p.R = q.R ∧ p.G = q.G ∧ p.B = q.B ∧ p.A = q.A) ∧
  (∀ p q : Pixel, eqPx p q = true ↔ p.pack = q.pack) ∧
  (∀ (p : Pixel) (a : Byte), a ≠ p.A → eqPx p { p with A := a } = false) ∧
  eqPx (px 0 0 0 255) (px 0 0 0 0) = false

/-- The hash formula, its bound, and the values R111 gives (40_pixel_model.md R111). -/
def Obligations.HashIsTheWeightedSumModulo64 : Prop :=
  (∀ p : Pixel, (hash p).toNat = (3 * p.R.toNat + 5 * p.G.toNat + 7 * p.B.toNat + 11 * p.A.toNat) % 64) ∧
  (∀ p : Pixel, 3 * p.R.toNat + 5 * p.G.toNat + 7 * p.B.toNat + 11 * p.A.toNat ≤ 6630) ∧
  hash (px 0 0 0 0) = 0 ∧ hash (px 0 0 0 255) = 53 ∧ hash (px 255 255 255 255) = 38 ∧
  hash (px 10 20 30 255) = 9 ∧ hash (px 74 20 30 255) = 9 ∧ hash (px 254 255 0 255) = 42

/-- The hash may be computed modulo any 2^w with w at least 6, with products wrapped to 8 bits, or from the low 6 bits of
each channel (40_pixel_model.md R112). -/
def Obligations.HashDoesNotDependOnIntermediateWidth : Prop :=
  ∀ p : Pixel,
    (∀ w : Nat, 6 ≤ w →
      (hash p).toNat = ((3 * p.R.toNat + 5 * p.G.toNat + 7 * p.B.toNat + 11 * p.A.toNat) % 2 ^ w) % 64) ∧
    (hash p).toNat = ((3 * p.R).toNat + (5 * p.G).toNat + (7 * p.B).toNat + (11 * p.A).toNat) % 64 ∧
    hash p = 3 * p.R.extractLsb' 0 6 + 5 * p.G.extractLsb' 0 6 + 7 * p.B.extractLsb' 0 6 + 11 * p.A.extractLsb' 0 6

/-- The channel difference: in [-128, 127], congruent to a - b modulo 256, with R113's values (40_pixel_model.md R113). -/
def Obligations.ChannelDifferenceWrapsToSignedByte : Prop :=
  (∀ a b : Byte, -128 ≤ d8 a b ∧ d8 a b ≤ 127 ∧ (d8 a b - ((a.toNat : Int) - b.toNat)) % 256 = 0) ∧
  (∀ a : Byte, d8 a a = 0) ∧
  d8 0 255 = 1 ∧ d8 255 0 = -1 ∧ d8 127 0 = 127 ∧ d8 128 0 = -128 ∧ d8 0 128 = -128 ∧ d8 254 0 = -2

/-- The four-lane difference has no carry between lanes; da = 0 exactly for equal alpha (40_pixel_model.md R114). -/
def Obligations.PixelDifferenceIsLaneByLane : Prop :=
  (∀ p l : Pixel, diff p l = ⟨d8 p.R l.R, d8 p.G l.G, d8 p.B l.B, d8 p.A l.A⟩) ∧
  (∀ p l : Pixel, (diff p l).da = 0 ↔ p.A = l.A) ∧
  diff (px 0 254 0 255) (px 254 255 0 255) = ⟨2, -1, 0, 0⟩

/-- The condition of DIFF (40_pixel_model.md R115): the range is asymmetric. -/
def Obligations.SmallDeltaRange : Prop :=
  (∀ d : Delta, diffOk d = true ↔
    d.da = 0 ∧ -2 ≤ d.dr ∧ d.dr ≤ 1 ∧ -2 ≤ d.dg ∧ d.dg ≤ 1 ∧ -2 ≤ d.db ∧ d.db ≤ 1) ∧
  diffOk ⟨1, -2, 1, 0⟩ = true ∧
  diffOk ⟨1, 0, 0, 0⟩ = true ∧ diffOk ⟨2, 0, 0, 0⟩ = false ∧ diffOk ⟨-2, 0, 0, 0⟩ = true ∧ diffOk ⟨-3, 0, 0, 0⟩ = false

/-- The condition of LUMA (40_pixel_model.md R116); wrapping the cross deltas to 8 bits again would not change it (R116's
inference), and every small delta meets it (R117). -/
def Obligations.LumaDeltaRange : Prop :=
  (∀ d : Delta, lumaOk d = true ↔
    d.da = 0 ∧ -32 ≤ d.dg ∧ d.dg ≤ 31 ∧ -8 ≤ d.dr - d.dg ∧ d.dr - d.dg ≤ 7 ∧ -8 ≤ d.db - d.dg ∧ d.db - d.dg ≤ 7) ∧
  lumaOk ⟨38, 31, 31, 0⟩ = true ∧ lumaOk ⟨39, 31, 31, 0⟩ = false ∧
  (∀ p l : Pixel, lumaOk (diff p l) =
    (decide ((diff p l).da = 0) && inRange (-32) (diff p l).dg 31 &&
      inRange (-8) (s8 (u8 ((diff p l).dr - (diff p l).dg))) 7 &&
      inRange (-8) (s8 (u8 ((diff p l).db - (diff p l).dg))) 7)) ∧
  ∀ d : Delta, diffOk d = true → lumaOk d = true

/-- Each bias maps its delta range onto its field's range (40_pixel_model.md R118). -/
def Obligations.BiasedDeltasFitTheirFields : Prop :=
  (∀ x : Int, -2 ≤ x → x ≤ 1 → bias2 x = x + 2 ∧ 0 ≤ bias2 x ∧ bias2 x ≤ 3) ∧
  (∀ x : Int, -32 ≤ x → x ≤ 31 → bias32 x = x + 32 ∧ 0 ≤ bias32 x ∧ bias32 x ≤ 63) ∧
  (∀ x : Int, -8 ≤ x → x ≤ 7 → bias8 x = x + 8 ∧ 0 ≤ bias8 x ∧ bias8 x ≤ 15) ∧
  bias32 (-1) = 31

/-! ## The chunk writer -/

/-- INDEX and RUN: one byte each, 1 pixel and n pixels (42_chunk_writer.md R161, R164), and nothing else changed. -/
def Obligations.IndexAndRunChunksWritten : Prop :=
  ∀ s : State,
    (∀ h : Slot, ∃ t, exec (.index h) s = .next t ∧ ChunkWritten .index [BitVec.ofNat 8 h.toNat] 1 s t) ∧
    (∀ n : BitVec 6, WellFormed (.run n) →
      ∃ t, exec (.run n) s = .next t ∧ ChunkWritten .run [BitVec.ofNat 8 (192 + (n.toNat - 1))] n.toNat s t)

/-- DIFF and LUMA: one and two bytes of biased deltas, 1 pixel (42_chunk_writer.md R162, R163), and nothing else
changed. -/
def Obligations.DiffAndLumaChunksWritten : Prop :=
  ∀ s : State,
    (∀ dr dg db : Int, WellFormed (.diff dr dg db) → ∃ t, exec (.diff dr dg db) s = .next t ∧
      ChunkWritten .diff [BitVec.ofInt 8 (64 + 16 * (dr + 2) + 4 * (dg + 2) + (db + 2))] 1 s t) ∧
    (∀ dg drg dbg : Int, WellFormed (.luma dg drg dbg) → ∃ t, exec (.luma dg drg dbg) s = .next t ∧
      ChunkWritten .luma [BitVec.ofInt 8 (128 + (dg + 32)), BitVec.ofInt 8 (16 * (drg + 8) + (dbg + 8))] 1 s t)

/-- RGB and RGBA: the tag and the raw channels, 1 pixel (42_chunk_writer.md R165, R166), and nothing else changed. -/
def Obligations.RgbAndRgbaChunksWritten : Prop :=
  ∀ s : State,
    (∀ r g b : Byte, ∃ t, exec (.rgb r g b) s = .next t ∧ ChunkWritten .rgb [0xFE, r, g, b] 1 s t) ∧
    (∀ p : Pixel, ∃ t, exec (.rgba p) s = .next t ∧ ChunkWritten .rgba [0xFF, p.R, p.G, p.B, p.A] 1 s t)

/-- What the chunk writer emits is the chunk's encoding, of the size of R93's table. -/
def Obligations.EmittedBytesAreTheEncoding : Prop :=
  ∀ (i : Instr) (s : State), i.isCommand = false → WellFormed i →
    ∃ t bytes, exec i s = .next t ∧ encode i = .chunk bytes ∧ t.pending = s.pending ++ bytes ∧
      8 * bytes.length = match i with
        | .index .. => 8
        | .diff .. => 8
        | .luma .. => 16
        | .run .. => 8
        | .rgb .. => 32
        | .rgba .. => 40
        | .init .. => 0
        | .pix .. => 0
        | .finish => 0
        | .illegal => 0

/-! ## Statistics -/

/-- With statistics off no instruction but INIT touches a counter (42_chunk_writer.md R160, R167). -/
def Obligations.StatisticsOffLeavesCountersAlone : Prop :=
  ∀ (i : Instr) (s : State), isInit i = false → s.statsEn = false →
    ∃ t, exec i s = .next t ∧ t.statPixels = s.statPixels ∧ t.statBits = s.statBits ∧ t.statKpix = s.statKpix ∧
      t.statKbits = s.statKbits ∧ t.statsEn = false

/-- With statistics on, total bits grow by 8 for each byte emitted (10_state.md R31). -/
def Obligations.BitsCountedAreBytesEmitted : Prop :=
  ∀ (i : Instr) (s : State), isInit i = false → s.statsEn = true →
    ∃ t bytes, exec i s = .next t ∧ t.pending = s.pending ++ bytes ∧
      t.statBits = s.statBits + BitVec.ofNat 64 (8 * bytes.length)

/-- A kind's bit counter stays a multiple of the kind's chunk length while it does not wrap (10_state.md R31). -/
def Obligations.KindBitsStayMultiplesOfChunkLength : Prop :=
  ∀ (i : Instr) (s t : State), exec i s = .next t → (∀ j : Fin 6, kindBits j ∣ s.statKbits[j].toNat) →
    (isInit i = false → ∀ j : Fin 6, s.statKbits[j].toNat ≤ t.statKbits[j].toNat) →
    ∀ j : Fin 6, kindBits j ∣ t.statKbits[j].toNat

/-- After a whole stream with statistics on, total pixels is the number of pixels sent, and it is the sum over the kinds
(10_state.md R31). -/
def Obligations.StreamCountsEveryPixelOnce : Prop :=
  ∀ (s : State) (w h : BitVec 32) (c cs : Byte) (ps : List Pixel),
    ∃ t, runCommands (streamOf w h c cs true ps) s = .next t ∧ t.phase = .done ∧ t.run = 0 ∧
      t.statPixels = BitVec.ofNat 64 ps.length ∧ t.statPixels = sum6 t.statKpix ∧ t.statBits = sum6 t.statKbits

/-! ## The commands -/

/-- INIT (41_engine.md R131): the whole next state, from any state; nothing is emitted, no other flag changes. -/
def Obligations.InitStartsAStream : Prop :=
  ∀ (s : State) (W H : BitVec 32) (C CS : Byte) (S : Bool),
    exec (.init W H C CS S) s = .next { s with
      cache := Vector.replicate 64 (px 0 0 0 0), lastPx := s.cfg.lastPxInit.pixel, run := 0,
      statPixels := 0, statBits := 0, statKpix := Vector.replicate 6 0, statKbits := Vector.replicate 6 0,
      statsEn := S, descWidth := W, descHeight := H, descChannels := C, descColorspace := CS,
      descInvalid := s.descInvalid || !((C == 3 || C == 4) && (CS == 0 || CS == 1)),
      phase := .active } ∧
    ∀ c : Config, ∃ t, exec (.init 2 2 3 0 true) (State.resetWith c) = .next t ∧ t.statusWord = 0x09

/-- PIXEL outside ACTIVE (41_engine.md R143): the flag, and nothing else. -/
def Obligations.PixelOutsideActiveIsRefused : Prop :=
  ∀ (s : State) (p : Pixel), s.phase = .idle ∨ s.phase = .done →
    exec (.pix p) s = .next { s with refusedPixel := true }

/-- Step 1 (41_engine.md R133): a pixel equal to `last_px` lengthens the run; at 62 the run is emitted as `FD`. -/
def Obligations.PixelEqualToLastContinuesTheRun : Prop :=
  ∀ (s : State) (p : Pixel), s.phase = .active → p = s.lastPx →
    (s.run + 1 ≠ 62 → exec (.pix p) s = .next { s with run := s.run + 1 }) ∧
    (s.run + 1 = 62 → ∃ u, ChunkWritten .run [0xFD] 62 s u ∧ exec (.pix p) s = .next { u with run := 0 })

/-- Step 2 (41_engine.md R134): a different pixel first flushes the pending run, and is then processed from step 3 as if
no run had been pending. -/
def Obligations.PixelThatBreaksARunFlushesItFirst : Prop :=
  ∀ (s : State) (p : Pixel), s.phase = .active → p ≠ s.lastPx → s.run ≠ 0 →
    ∃ u t, ChunkWritten .run [BitVec.ofNat 8 (192 + (s.run.toNat - 1))] s.run.toNat s u ∧
      exec (.pix p) s = .next t ∧ exec (.pix p) { u with run := 0 } = .next t

/-- Step 3 (41_engine.md R135): a cache hit gives INDEX; the cache is not written. -/
def Obligations.CacheHitEmitsIndex : Prop :=
  ∀ (s : State) (p : Pixel), AtLookup p s → s.cacheAt (hash p) = p →
    ∃ u, ChunkWritten .index [BitVec.ofNat 8 (hash p).toNat] 1 s u ∧ exec (.pix p) s = .next { u with lastPx := p }

/-- Step 4 (41_engine.md R136): a miss stores the pixel at its hash, whichever chunk follows, and no other slot changes. -/
def Obligations.CacheMissStoresThePixel : Prop :=
  ∀ (s : State) (p : Pixel), AtMiss p s →
    ∃ t, exec (.pix p) s = .next t ∧ t.cacheAt (hash p) = p ∧ ∀ i, i ≠ hash p → t.cacheAt i = s.cacheAt i

/-- Step 5 (41_engine.md R137): a miss with unchanged alpha and every delta in [-2, 1] is DIFF. -/
def Obligations.SmallDeltaEmitsDiff : Prop :=
  ∀ (s : State) (p : Pixel), AtMiss p s → ∀ d, d = diff p s.lastPx →
    d.da = 0 → -2 ≤ d.dr → d.dr ≤ 1 → -2 ≤ d.dg → d.dg ≤ 1 → -2 ≤ d.db → d.db ≤ 1 →
    ∃ u, ChunkWritten .diff [BitVec.ofInt 8 (64 + 16 * (d.dr + 2) + 4 * (d.dg + 2) + (d.db + 2))] 1 s u ∧
      exec (.pix p) s = .next { u.cacheStore (hash p) p with lastPx := p }

/-- Step 6 (41_engine.md R138): a miss that step 5 rejects, with unchanged alpha and green and cross deltas in range, is
LUMA. -/
def Obligations.LumaDeltaEmitsLuma : Prop :=
  ∀ (s : State) (p : Pixel), AtMiss p s → ∀ d, d = diff p s.lastPx →
    ¬ (-2 ≤ d.dr ∧ d.dr ≤ 1 ∧ -2 ≤ d.dg ∧ d.dg ≤ 1 ∧ -2 ≤ d.db ∧ d.db ≤ 1) →
    d.da = 0 → -32 ≤ d.dg → d.dg ≤ 31 → -8 ≤ d.dr - d.dg → d.dr - d.dg ≤ 7 → -8 ≤ d.db - d.dg → d.db - d.dg ≤ 7 →
    ∃ u, ChunkWritten .luma
        [BitVec.ofInt 8 (128 + (d.dg + 32)), BitVec.ofInt 8 (16 * (d.dr - d.dg + 8) + (d.db - d.dg + 8))] 1 s u ∧
      exec (.pix p) s = .next { u.cacheStore (hash p) p with lastPx := p }

/-- Step 7 (41_engine.md R139): a miss that both steps reject is RGB for unchanged alpha, RGBA for changed alpha. -/
def Obligations.FullPixelEmitsRgbOrRgba : Prop :=
  ∀ (s : State) (p : Pixel), AtMiss p s → diffOk (diff p s.lastPx) = false → lumaOk (diff p s.lastPx) = false →
    (p.A = s.lastPx.A → ∃ u, ChunkWritten .rgb [0xFE, p.R, p.G, p.B] 1 s u ∧
      exec (.pix p) s = .next { u.cacheStore (hash p) p with lastPx := p }) ∧
    (p.A ≠ s.lastPx.A → ∃ u, ChunkWritten .rgba [0xFF, p.R, p.G, p.B, p.A] 1 s u ∧
      exec (.pix p) s = .next { u.cacheStore (hash p) p with lastPx := p })

/-- The bytes of one PIXEL in ACTIVE (41_engine.md R140): nothing, `FD`, one chunk, or a RUN chunk and one chunk; 6 at
most. -/
def Obligations.PixelEmitsAtMostARunAndAChunk : Prop :=
  ∀ (s : State) (p : Pixel), s.phase = .active → s.run.toNat ≤ 61 →
    ∃ t bytes, exec (.pix p) s = .next t ∧ t.pending = s.pending ++ bytes ∧ bytes.length ≤ 6 ∧
      (p = s.lastPx → bytes = if s.run = 61 then [0xFD] else []) ∧
      (p ≠ s.lastPx → ∃ i own, i.isCommand = false ∧ (∀ n, i ≠ .run n) ∧ WellFormed i ∧ encode i = .chunk own ∧
        bytes = if s.run = 0 then own else BitVec.ofNat 8 (192 + (s.run.toNat - 1)) :: own)

/-- The frame of PIXEL in ACTIVE: it completes for every pixel, the pixel is `last_px` afterwards, only its own slot can
change, and nothing but these, `run`, the output and the counters changes (41_engine.md R140, R149). -/
def Obligations.PixelFrame : Prop :=
  ∀ (s : State) (p : Pixel), s.phase = .active →
    ∃ t, exec (.pix p) s = .next t ∧ t.lastPx = p ∧
      (p = s.lastPx → t.cache = s.cache) ∧
      (p ≠ s.lastPx → t.run = 0 ∧ t.cacheAt (hash p) = p) ∧
      (∀ i, i ≠ hash p → t.cacheAt i = s.cacheAt i) ∧
      t = { s with cache := t.cache, lastPx := t.lastPx, run := t.run, pending := t.pending, statPixels := t.statPixels,
                   statBits := t.statBits, statKpix := t.statKpix, statKbits := t.statKbits }

/-- FINISH (41_engine.md R141), in each phase. -/
def Obligations.FinishEndsTheStream : Prop :=
  ∀ s : State,
    (s.phase = .idle → exec .finish s = .next { s with refusedFinish := true }) ∧
    (s.phase = .done → exec .finish s = .next s) ∧
    (s.phase = .active → s.run = 0 → exec .finish s = .next { s with phase := .done }) ∧
    (s.phase = .active → s.run ≠ 0 →
      ∃ u, ChunkWritten .run [BitVec.ofNat 8 (192 + (s.run.toNat - 1))] s.run.toNat s u ∧
        exec .finish s = .next { u with run := 0, phase := .done })

/-- The reserved op (41_engine.md R142): its flag and nothing else, in every phase; a PIXEL after it does what it would
have done without it. -/
def Obligations.IllegalOnlySetsItsFlag : Prop :=
  ∀ s : State, exec .illegal s = .next { s with illegalCmd := true } ∧
    ∀ (p : Pixel) (t : State), exec (.pix p) s = .next t →
      exec (.pix p) { s with illegalCmd := true } = .next { t with illegalCmd := true }

/-! ## Rules over all instructions -/

/-- What no instruction does (41_engine.md R149): only INIT and PIXEL write the cache and `last_px`, only these and FINISH
write `run`, only INIT writes the descriptor and `stats_en`, and none writes the parameters or touches the ports. -/
def Obligations.InstructionsWriteOnlyTheirOwnState : Prop :=
  ∀ (i : Instr) (s : State), ∃ t, exec i s = .next t ∧
    ((∀ p, i ≠ .pix p) → isInit i = false → t.cache = s.cache ∧ t.lastPx = s.lastPx ∧ (i ≠ .finish → t.run = s.run)) ∧
    (isInit i = false → t.descWidth = s.descWidth ∧ t.descHeight = s.descHeight ∧ t.descChannels = s.descChannels ∧
      t.descColorspace = s.descColorspace ∧ t.statsEn = s.statsEn) ∧
    t.cfg = s.cfg ∧ t.busy = s.busy ∧ t.out = s.out ∧ t.reads = s.reads ∧ t.outReady = s.outReady ∧ t.rst = s.rst ∧
    t.work = s.work ∧ t.events = s.events ∧ t.draws = s.draws

/-- Each sticky flag is set by its one cause, and only a reset event clears one (10_state.md R32). -/
def Obligations.StickyFlagsHaveOneCauseEach : Prop :=
  (∀ (i : Instr) (s : State), ∃ t, exec i s = .next t ∧
    (t.illegalCmd = true ↔ s.illegalCmd = true ∨ i = .illegal) ∧
    (t.refusedPixel = true ↔ s.refusedPixel = true ∨ ((∃ p, i = .pix p) ∧ s.phase ≠ .active)) ∧
    (t.refusedFinish = true ↔ s.refusedFinish = true ∨ (i = .finish ∧ s.phase = .idle)) ∧
    (t.descInvalid = true ↔ s.descInvalid = true ∨
      ∃ W H C CS S, i = .init W H C CS S ∧ ((C ≠ 3 ∧ C ≠ 4) ∨ (CS ≠ 0 ∧ CS ≠ 1)))) ∧
  (∀ s t : State, step s = .next t → (∀ b es, s.events ≠ .rst b :: es) →
    (s.illegalCmd = true → t.illegalCmd = true) ∧ (s.refusedPixel = true → t.refusedPixel = true) ∧
    (s.refusedFinish = true → t.refusedFinish = true) ∧ (s.descInvalid = true → t.descInvalid = true))

/-- The lifecycle of the stream (10_state.md R25): INIT sets ACTIVE from any phase, FINISH moves ACTIVE to DONE, PIXEL is
processed only in ACTIVE, reset sets IDLE, and nothing else writes the phase. -/
def Obligations.PhaseLifecycle : Prop :=
  (∀ (i : Instr) (s : State), ∃ t, exec i s = .next t ∧
    t.phase = if isInit i then .active else if i = .finish ∧ s.phase = .active then .done else s.phase) ∧
  (∀ (s : State) (p : Pixel), s.phase ≠ .active → exec (.pix p) s = .next { s with refusedPixel := true }) ∧
  (∀ (s : State) (es : List HostEvent), s.events = .rst true :: es → ∃ t, step s = .next t ∧ t.phase = .idle) ∧
  (∀ s : State, s.phase.code ≠ 3)

/-- No instruction but INIT reads the descriptor (41_engine.md R146): with another descriptor it does the same. -/
def Obligations.DescriptorIsPassive : Prop :=
  ∀ (i : Instr) (s : State) (W H : BitVec 32) (C CS : Byte), isInit i = false →
    ∃ t, exec i s = .next t ∧
      exec i { s with descWidth := W, descHeight := H, descChannels := C, descColorspace := CS } =
        .next { t with descWidth := W, descHeight := H, descChannels := C, descColorspace := CS }

/-! ## Registers -/

/-- The fields of STATUS (10_state.md R33). -/
def Obligations.StatusRegisterLayout : Prop :=
  ∀ s : State,
    s.statusWord.extractLsb' 0 2 = (match s.phase with | .idle => 0#2 | .active => 1#2 | .done => 2#2) ∧
    s.statusWord.getLsbD 2 = s.busy ∧ s.statusWord.getLsbD 3 = s.statsEn ∧ s.statusWord.getLsbD 4 = s.illegalCmd ∧
    s.statusWord.getLsbD 5 = s.refusedPixel ∧ s.statusWord.getLsbD 6 = s.refusedFinish ∧
    s.statusWord.getLsbD 7 = s.descInvalid ∧ s.statusWord.extractLsb' 8 56 = 0 ∧
    ∀ c : Config, (State.resetWith c).statusWord = 0

/-- The read map, all 32 addresses, the reset column, and that the cache, `last_px` and `run` have no address (10_state.md
R34). -/
def Obligations.RegisterReadMap : Prop :=
  ∀ s : State,
    s.readReg 0x00 = s.statusWord ∧ (s.readReg 0x01).toNat = s.descWidth.toNat ∧
    (s.readReg 0x02).toNat = s.descHeight.toNat ∧
    (s.readReg 0x03).toNat = s.descChannels.toNat * 256 + s.descColorspace.toNat ∧
    s.readReg 0x04 = s.statPixels ∧ s.readReg 0x05 = s.statBits ∧
    (∀ k : Fin 6, s.readReg (BitVec.ofNat 5 (0x08 + k)) = s.statKpix[k]) ∧
    (∀ k : Fin 6, s.readReg (BitVec.ofNat 5 (0x10 + k)) = s.statKbits[k]) ∧
    (∀ a : BitVec 5, a = 0x06 ∨ a = 0x07 ∨ a = 0x0E ∨ a = 0x0F ∨ 0x16 ≤ a.toNat → s.readReg a = 0) ∧
    (∀ (c : Config) (a : BitVec 5), State.readReg a (State.resetWith c) = 0) ∧
    ∀ (a : BitVec 5) (c : Vector Pixel 64) (l : Pixel) (r : BitVec 6),
      State.readReg a { s with cache := c, lastPx := l, run := r } = s.readReg a

/-- A register read has no side effect on the block. With BUSY = 0 it answers the register, and two reads in a row answer
the same (10_state.md R35). With BUSY = 1 it answers some value, in which STATUS.BUSY is exact
(70_reset_and_hazards.md R206). The model's own in it: the record `reads` is notes/assumptions/8.md, the count `draws` is
notes/assumptions/9.md, and that R206 is followed for every bit but BUSY is notes/assumptions/19.md. -/
def Obligations.RegisterReadsHaveNoSideEffect : Prop :=
  ∀ (s : State) (a : BitVec 5) (es : List HostEvent), s.events = .read a :: es →
    (s.busy = false →
      step s = .next { s with events := es, reads := s.reads ++ [⟨a, false, s.readReg a⟩] }) ∧
    (s.busy = false → ∀ es', es = .read a :: es' →
      runSteps 2 s = .next
        { s with events := es', reads := s.reads ++ [⟨a, false, s.readReg a⟩, ⟨a, false, s.readReg a⟩] }) ∧
    (a = 0x06 ∨ a = 0x07 ∨ a = 0x0E ∨ a = 0x0F ∨ 0x16 ≤ a.toNat → s.readReg a = 0) ∧
    (s.busy = true → ∃ v : BitVec 64, (a = 0 → v.getLsbD 2 = true) ∧
      step s = .next { s with events := es, reads := s.reads ++ [⟨a, true, v⟩], draws := s.draws + 1 })

/-- What the host can read does not show the cache, `last_px` or `run` (10_state.md R38): two idle states that differ only
there answer the same reads, and the answers do not change whatever else the host reads in between. The record `reads` is
the model's own (notes/assumptions/8.md). -/
def Obligations.ReadsDoNotShowHiddenState : Prop :=
  ∀ (s : State) (as : List (BitVec 5)) (c : Vector Pixel 64) (l : Pixel) (r : BitVec 6),
    s.busy = false → s.events = as.map .read →
    ∃ t u, runSteps as.length s = .next t ∧
      runSteps as.length { s with cache := c, lastPx := l, run := r } = .next u ∧
      t.reads = s.reads ++ as.map (fun a => ⟨a, false, s.readReg a⟩) ∧ u.reads = t.reads

/-! ## The ports -/

/-- A step of an idle block with a word on its command port runs the decoded instruction on the state in which the word is
taken and BUSY is 1; a word that does not decode stops the machine by name. Placing a word makes the next step run it
(the model's own sequencing, log 6). -/
def Obligations.StepRunsTheDecodedInstruction : Prop :=
  (∀ (s : State) (f : Fetched) (fs : List Fetched) (i : Instr), s.cmdReady = true → s.pending = [] → s.work = f :: fs →
    readFetched s.cfg.reservedBits f = .ok i →
    (s.events = [] → step s = exec i { s with work := fs, busy := true }) ∧
    (∀ es, s.events = .tick :: es → step s = exec i { s with events := es, work := fs, busy := true })) ∧
  (∀ (s : State) (f : Fetched) (fs : List Fetched) (e : DecodeReject), s.cmdReady = true → s.pending = [] →
    s.work = f :: fs → s.events = [] → readFetched s.cfg.reservedBits f = .error e →
    step s = .refused (refusalOf e)) ∧
  (∀ (s : State) (nbits w : Nat) (i : Instr), readFetched s.cfg.reservedBits (tableFetched nbits w) = .ok i →
    step (s.withFetchWord nbits w) = exec i { s with busy := true, pending := [], rst := false })

/-- The command port (10_state.md R40): a step takes a word only when `cmd_valid` and `cmd_ready` are both 1, takes the
first one, and makes `busy` 1; the port changes otherwise only by an offer, behind the words that stand there, which is the
model's choice (log 6 for the list of offers, log 20 for an offered word that stands until taken). -/
def Obligations.CommandsAcceptedInOrderWhenReady : Prop :=
  ∀ s t : State, step s = .next t → t.work ≠ s.work →
    (∃ w es, s.events = .offer w :: es ∧ t.work = s.work ++ [.command w]) ∨
    (s.cmdValid = true ∧ s.cmdReady = true ∧ t.busy = true ∧ ∃ f, s.work = f :: t.work)

/-- The output port (10_state.md R41): a waiting byte is transferred when the sink is ready, the command being complete
with its last byte (10_state.md R42), and is held unchanged when it is not. -/
def Obligations.OutputBytesTransferredInOrder : Prop :=
  ∀ (s : State) (b : Byte) (rest : List Byte), s.events = [] → s.rst = false → s.pending = b :: rest →
    (s.outReady = true →
      step s = .next { s with out := s.out ++ [b], pending := rest, busy := !rest.isEmpty }) ∧
    (s.outReady = false → step s = .next s)

/-- A sink that never accepts again is a run that never completes: no number of steps changes anything, the byte stays
offered, `busy` stays 1 and `cmd_ready` 0 (70_reset_and_hazards.md R207). -/
def Obligations.StalledSinkNeverMovesOn : Prop :=
  ∀ s : State, s.events = [] → s.outReady = false → s.pending ≠ [] → s.busy = true →
    ∀ k, ∃ t, runSteps k s = .next t ∧ t = s ∧ t.outValid = true ∧ t.busy = true ∧ t.cmdReady = false

/-- A command in progress completes, with all its bytes at the sink, in as many block moves as it has bytes, or in one if
it has none (10_state.md R42, 70_reset_and_hazards.md R209; the number of moves is the model's, log 5). -/
def Obligations.AcceptedCommandCompletes : Prop :=
  ∀ s : State, s.events = [] → s.rst = false → s.outReady = true → s.busy = true →
    runSteps (max 1 s.pending.length) s =
      .next { s with out := s.out ++ s.pending, pending := [], busy := false }

/-- Nothing an outsider has observed is ever taken back, and outside a reset no emitted byte is removed, reordered or
rewritten (00_scope.md R11, 10_state.md R44). The records `out` and `reads` are the model's own (notes/assumptions/8.md). -/
def Obligations.EmittedBytesAreNeverRewritten : Prop :=
  ∀ s t : State, step s = .next t →
    (observed s).1 <+: (observed t).1 ∧ (observed s).2 <+: (observed t).2 ∧
    ((∀ b es, s.events ≠ .rst b :: es) → ∃ bytes, t.out ++ t.pending = s.out ++ s.pending ++ bytes)

/-- Reset (70_reset_and_hazards.md R200, R201): when the pin rises, and when it falls, every piece of state takes its reset
value, the command in progress is abandoned, and the sink has some prefix of its bytes; in reset the block does not
move. The model's choices in it: the clauses on `work`, `reads` and `rst` are notes/assumptions/16.md, the event list is
notes/assumptions/6.md, and the range of the prefix, the bytes that still wait, is notes/assumptions/10.md. -/
def Obligations.ResetGivesTheResetValues : Prop :=
  (∀ (s : State) (b : Bool) (es : List HostEvent), s.events = .rst b :: es → (b = true ∨ s.rst = true) →
    ∃ t k, step s = .next t ∧ k ≤ s.pending.length ∧ t.out = s.out ++ s.pending.take k ∧ t.pending = [] ∧
      (∀ i, t.cacheAt i = px 0 0 0 0) ∧ t.lastPx = s.cfg.lastPxInit.pixel ∧ t.run = 0 ∧ t.phase = .idle ∧
      t.statsEn = false ∧ t.descWidth = 0 ∧ t.descHeight = 0 ∧ t.descChannels = 0 ∧ t.descColorspace = 0 ∧
      t.statPixels = 0 ∧ t.statBits = 0 ∧ (∀ j : Fin 6, t.statKpix[j] = 0) ∧ (∀ j : Fin 6, t.statKbits[j] = 0) ∧
      t.illegalCmd = false ∧ t.refusedPixel = false ∧ t.refusedFinish = false ∧ t.descInvalid = false ∧
      t.busy = false ∧ t.cfg = s.cfg ∧ t.rst = b ∧ t.reads = s.reads ∧ t.work = s.work ∧ t.events = es) ∧
  (∀ s : State, s.rst = true → s.events = [] → step s = .next s)

/-! ## Headline -/

/-- The reset state meets the invariant, whatever the parameters. -/
def Obligations.ResetStateMeetsInv : Prop := Inv State.reset ∧ ∀ c : Config, Inv (State.resetWith c)

/-- Every step keeps the invariant. -/
def Obligations.EveryStepKeepsInv : Prop := ∀ s t : State, Inv s → step s = .next t → Inv t

/-- Round trip (41_engine.md R148, 10_state.md R44): from any state, the bytes of a stream are read back by the reference
decoder as exactly the pixels sent. -/
def Obligations.DecodedStreamIsTheInputPixels : Prop :=
  ∀ (s : State) (w h : BitVec 32) (c cs : Byte) (en : Bool) (ps : List Pixel),
    ∃ t bytes, runCommands (streamOf w h c cs en ps) s = .next t ∧ t.pending = s.pending ++ bytes ∧
      refDecode s.cfg.lastPxInit bytes = some ps

/-- The bytes of a stream are a function of `LAST_PX_INIT` and of its pixels, and of nothing else: not of what went before,
the descriptor, the statistics, or reserved ops in between (41_engine.md R148). -/
def Obligations.StreamBytesDependOnPixelsOnly : Prop :=
  ∀ (s₁ s₂ : State) (w₁ h₁ w₂ h₂ : BitVec 32) (c₁ cs₁ c₂ cs₂ : Byte) (en₁ en₂ : Bool) (L₁ L₂ : List Instr),
    s₁.cfg.lastPxInit = s₂.cfg.lastPxInit → (∀ i ∈ L₁, isPixOrIllegal i = true) → (∀ i ∈ L₂, isPixOrIllegal i = true) →
    pixelsOf L₁ = pixelsOf L₂ →
    ∃ t₁ t₂ bytes, runCommands (.init w₁ h₁ c₁ cs₁ en₁ :: (L₁ ++ [.finish])) s₁ = .next t₁ ∧
      runCommands (.init w₂ h₂ c₂ cs₂ en₂ :: (L₂ ++ [.finish])) s₂ = .next t₂ ∧
      t₁.pending = s₁.pending ++ bytes ∧ t₂.pending = s₂.pending ++ bytes

/-- Outside ACTIVE, no sequence of commands without INIT emits a byte or changes the stream's state or its counters
(41_engine.md R141, R142, R143). -/
def Obligations.NothingEmittedOutsideAStream : Prop :=
  ∀ (L : List Instr) (s : State), s.phase ≠ .active → (∀ i ∈ L, i.isCommand = true ∧ isInit i = false) →
    ∃ t, runCommands L s = .next t ∧
      t = { s with illegalCmd := t.illegalCmd, refusedPixel := t.refusedPixel, refusedFinish := t.refusedFinish }

/-- The ports deliver the transaction-level result: command words offered to an idle block with a ready sink run, step by
step, to the state that the commands give one after the other, with all their bytes at the sink in order
(20_memory.md R70, 10_state.md R40, R41). -/
def Obligations.StepsDeliverTheCommandsResult : Prop :=
  ∀ (is : List Instr) (s : State), (∀ i ∈ is, i.isCommand = true) → s.events = [] → s.outReady = true →
    s.rst = false → s.busy = false → s.pending = [] → s.work = is.map encode →
    ∃ u k, runCommands is { s with work := [] } = .next u ∧
      runSteps k s = .next { u with out := s.out ++ u.pending, pending := [] }
end

