-- ==== Sys2Proof/Laws/State.lean ====
section
/-! SUPPORT. One lemma per field of State per named update, true by unfolding the update once. -/

namespace Sys2Proof.Machine

variable (s : State)

/-! ## setLastPx -/

@[simp] theorem State.setLastPx_cfg (p : Pixel) : (s.setLastPx p).cfg = s.cfg := rfl
@[simp] theorem State.setLastPx_cache (p : Pixel) : (s.setLastPx p).cache = s.cache := rfl
@[simp] theorem State.setLastPx_lastPx (p : Pixel) : (s.setLastPx p).lastPx = p := rfl
@[simp] theorem State.setLastPx_run (p : Pixel) : (s.setLastPx p).run = s.run := rfl
@[simp] theorem State.setLastPx_phase (p : Pixel) : (s.setLastPx p).phase = s.phase := rfl
@[simp] theorem State.setLastPx_statsEn (p : Pixel) : (s.setLastPx p).statsEn = s.statsEn := rfl
@[simp] theorem State.setLastPx_descWidth (p : Pixel) : (s.setLastPx p).descWidth = s.descWidth := rfl
@[simp] theorem State.setLastPx_descHeight (p : Pixel) : (s.setLastPx p).descHeight = s.descHeight := rfl
@[simp] theorem State.setLastPx_descChannels (p : Pixel) : (s.setLastPx p).descChannels = s.descChannels := rfl
@[simp] theorem State.setLastPx_descColorspace (p : Pixel) : (s.setLastPx p).descColorspace = s.descColorspace := rfl
@[simp] theorem State.setLastPx_statPixels (p : Pixel) : (s.setLastPx p).statPixels = s.statPixels := rfl
@[simp] theorem State.setLastPx_statBits (p : Pixel) : (s.setLastPx p).statBits = s.statBits := rfl
@[simp] theorem State.setLastPx_statKpix (p : Pixel) : (s.setLastPx p).statKpix = s.statKpix := rfl
@[simp] theorem State.setLastPx_statKbits (p : Pixel) : (s.setLastPx p).statKbits = s.statKbits := rfl
@[simp] theorem State.setLastPx_illegalCmd (p : Pixel) : (s.setLastPx p).illegalCmd = s.illegalCmd := rfl
@[simp] theorem State.setLastPx_refusedPixel (p : Pixel) : (s.setLastPx p).refusedPixel = s.refusedPixel := rfl
@[simp] theorem State.setLastPx_refusedFinish (p : Pixel) : (s.setLastPx p).refusedFinish = s.refusedFinish := rfl
@[simp] theorem State.setLastPx_descInvalid (p : Pixel) : (s.setLastPx p).descInvalid = s.descInvalid := rfl
@[simp] theorem State.setLastPx_busy (p : Pixel) : (s.setLastPx p).busy = s.busy := rfl
@[simp] theorem State.setLastPx_pending (p : Pixel) : (s.setLastPx p).pending = s.pending := rfl
@[simp] theorem State.setLastPx_out (p : Pixel) : (s.setLastPx p).out = s.out := rfl
@[simp] theorem State.setLastPx_reads (p : Pixel) : (s.setLastPx p).reads = s.reads := rfl
@[simp] theorem State.setLastPx_outReady (p : Pixel) : (s.setLastPx p).outReady = s.outReady := rfl
@[simp] theorem State.setLastPx_rst (p : Pixel) : (s.setLastPx p).rst = s.rst := rfl
@[simp] theorem State.setLastPx_work (p : Pixel) : (s.setLastPx p).work = s.work := rfl
@[simp] theorem State.setLastPx_events (p : Pixel) : (s.setLastPx p).events = s.events := rfl
@[simp] theorem State.setLastPx_draws (p : Pixel) : (s.setLastPx p).draws = s.draws := rfl

/-! ## setRun -/

@[simp] theorem State.setRun_cfg (n : BitVec 6) : (s.setRun n).cfg = s.cfg := rfl
@[simp] theorem State.setRun_cache (n : BitVec 6) : (s.setRun n).cache = s.cache := rfl
@[simp] theorem State.setRun_lastPx (n : BitVec 6) : (s.setRun n).lastPx = s.lastPx := rfl
@[simp] theorem State.setRun_run (n : BitVec 6) : (s.setRun n).run = n := rfl
@[simp] theorem State.setRun_phase (n : BitVec 6) : (s.setRun n).phase = s.phase := rfl
@[simp] theorem State.setRun_statsEn (n : BitVec 6) : (s.setRun n).statsEn = s.statsEn := rfl
@[simp] theorem State.setRun_descWidth (n : BitVec 6) : (s.setRun n).descWidth = s.descWidth := rfl
@[simp] theorem State.setRun_descHeight (n : BitVec 6) : (s.setRun n).descHeight = s.descHeight := rfl
@[simp] theorem State.setRun_descChannels (n : BitVec 6) : (s.setRun n).descChannels = s.descChannels := rfl
@[simp] theorem State.setRun_descColorspace (n : BitVec 6) : (s.setRun n).descColorspace = s.descColorspace := rfl
@[simp] theorem State.setRun_statPixels (n : BitVec 6) : (s.setRun n).statPixels = s.statPixels := rfl
@[simp] theorem State.setRun_statBits (n : BitVec 6) : (s.setRun n).statBits = s.statBits := rfl
@[simp] theorem State.setRun_statKpix (n : BitVec 6) : (s.setRun n).statKpix = s.statKpix := rfl
@[simp] theorem State.setRun_statKbits (n : BitVec 6) : (s.setRun n).statKbits = s.statKbits := rfl
@[simp] theorem State.setRun_illegalCmd (n : BitVec 6) : (s.setRun n).illegalCmd = s.illegalCmd := rfl
@[simp] theorem State.setRun_refusedPixel (n : BitVec 6) : (s.setRun n).refusedPixel = s.refusedPixel := rfl
@[simp] theorem State.setRun_refusedFinish (n : BitVec 6) : (s.setRun n).refusedFinish = s.refusedFinish := rfl
@[simp] theorem State.setRun_descInvalid (n : BitVec 6) : (s.setRun n).descInvalid = s.descInvalid := rfl
@[simp] theorem State.setRun_busy (n : BitVec 6) : (s.setRun n).busy = s.busy := rfl
@[simp] theorem State.setRun_pending (n : BitVec 6) : (s.setRun n).pending = s.pending := rfl
@[simp] theorem State.setRun_out (n : BitVec 6) : (s.setRun n).out = s.out := rfl
@[simp] theorem State.setRun_reads (n : BitVec 6) : (s.setRun n).reads = s.reads := rfl
@[simp] theorem State.setRun_outReady (n : BitVec 6) : (s.setRun n).outReady = s.outReady := rfl
@[simp] theorem State.setRun_rst (n : BitVec 6) : (s.setRun n).rst = s.rst := rfl
@[simp] theorem State.setRun_work (n : BitVec 6) : (s.setRun n).work = s.work := rfl
@[simp] theorem State.setRun_events (n : BitVec 6) : (s.setRun n).events = s.events := rfl
@[simp] theorem State.setRun_draws (n : BitVec 6) : (s.setRun n).draws = s.draws := rfl

/-! ## setPhase -/

@[simp] theorem State.setPhase_cfg (ph : Phase) : (s.setPhase ph).cfg = s.cfg := rfl
@[simp] theorem State.setPhase_cache (ph : Phase) : (s.setPhase ph).cache = s.cache := rfl
@[simp] theorem State.setPhase_lastPx (ph : Phase) : (s.setPhase ph).lastPx = s.lastPx := rfl
@[simp] theorem State.setPhase_run (ph : Phase) : (s.setPhase ph).run = s.run := rfl
@[simp] theorem State.setPhase_phase (ph : Phase) : (s.setPhase ph).phase = ph := rfl
@[simp] theorem State.setPhase_statsEn (ph : Phase) : (s.setPhase ph).statsEn = s.statsEn := rfl
@[simp] theorem State.setPhase_descWidth (ph : Phase) : (s.setPhase ph).descWidth = s.descWidth := rfl
@[simp] theorem State.setPhase_descHeight (ph : Phase) : (s.setPhase ph).descHeight = s.descHeight := rfl
@[simp] theorem State.setPhase_descChannels (ph : Phase) : (s.setPhase ph).descChannels = s.descChannels := rfl
@[simp] theorem State.setPhase_descColorspace (ph : Phase) : (s.setPhase ph).descColorspace = s.descColorspace := rfl
@[simp] theorem State.setPhase_statPixels (ph : Phase) : (s.setPhase ph).statPixels = s.statPixels := rfl
@[simp] theorem State.setPhase_statBits (ph : Phase) : (s.setPhase ph).statBits = s.statBits := rfl
@[simp] theorem State.setPhase_statKpix (ph : Phase) : (s.setPhase ph).statKpix = s.statKpix := rfl
@[simp] theorem State.setPhase_statKbits (ph : Phase) : (s.setPhase ph).statKbits = s.statKbits := rfl
@[simp] theorem State.setPhase_illegalCmd (ph : Phase) : (s.setPhase ph).illegalCmd = s.illegalCmd := rfl
@[simp] theorem State.setPhase_refusedPixel (ph : Phase) : (s.setPhase ph).refusedPixel = s.refusedPixel := rfl
@[simp] theorem State.setPhase_refusedFinish (ph : Phase) : (s.setPhase ph).refusedFinish = s.refusedFinish := rfl
@[simp] theorem State.setPhase_descInvalid (ph : Phase) : (s.setPhase ph).descInvalid = s.descInvalid := rfl
@[simp] theorem State.setPhase_busy (ph : Phase) : (s.setPhase ph).busy = s.busy := rfl
@[simp] theorem State.setPhase_pending (ph : Phase) : (s.setPhase ph).pending = s.pending := rfl
@[simp] theorem State.setPhase_out (ph : Phase) : (s.setPhase ph).out = s.out := rfl
@[simp] theorem State.setPhase_reads (ph : Phase) : (s.setPhase ph).reads = s.reads := rfl
@[simp] theorem State.setPhase_outReady (ph : Phase) : (s.setPhase ph).outReady = s.outReady := rfl
@[simp] theorem State.setPhase_rst (ph : Phase) : (s.setPhase ph).rst = s.rst := rfl
@[simp] theorem State.setPhase_work (ph : Phase) : (s.setPhase ph).work = s.work := rfl
@[simp] theorem State.setPhase_events (ph : Phase) : (s.setPhase ph).events = s.events := rfl
@[simp] theorem State.setPhase_draws (ph : Phase) : (s.setPhase ph).draws = s.draws := rfl

/-! ## cacheStore -/

@[simp] theorem State.cacheStore_cfg (i : Slot) (p : Pixel) : (s.cacheStore i p).cfg = s.cfg := rfl
@[simp] theorem State.cacheStore_cache (i : Slot) (p : Pixel) : (s.cacheStore i p).cache = s.cache.set i.toNat p := rfl
@[simp] theorem State.cacheStore_lastPx (i : Slot) (p : Pixel) : (s.cacheStore i p).lastPx = s.lastPx := rfl
@[simp] theorem State.cacheStore_run (i : Slot) (p : Pixel) : (s.cacheStore i p).run = s.run := rfl
@[simp] theorem State.cacheStore_phase (i : Slot) (p : Pixel) : (s.cacheStore i p).phase = s.phase := rfl
@[simp] theorem State.cacheStore_statsEn (i : Slot) (p : Pixel) : (s.cacheStore i p).statsEn = s.statsEn := rfl
@[simp] theorem State.cacheStore_descWidth (i : Slot) (p : Pixel) : (s.cacheStore i p).descWidth = s.descWidth := rfl
@[simp] theorem State.cacheStore_descHeight (i : Slot) (p : Pixel) : (s.cacheStore i p).descHeight = s.descHeight := rfl
@[simp] theorem State.cacheStore_descChannels (i : Slot) (p : Pixel) : (s.cacheStore i p).descChannels = s.descChannels := rfl
@[simp] theorem State.cacheStore_descColorspace (i : Slot) (p : Pixel) : (s.cacheStore i p).descColorspace = s.descColorspace := rfl
@[simp] theorem State.cacheStore_statPixels (i : Slot) (p : Pixel) : (s.cacheStore i p).statPixels = s.statPixels := rfl
@[simp] theorem State.cacheStore_statBits (i : Slot) (p : Pixel) : (s.cacheStore i p).statBits = s.statBits := rfl
@[simp] theorem State.cacheStore_statKpix (i : Slot) (p : Pixel) : (s.cacheStore i p).statKpix = s.statKpix := rfl
@[simp] theorem State.cacheStore_statKbits (i : Slot) (p : Pixel) : (s.cacheStore i p).statKbits = s.statKbits := rfl
@[simp] theorem State.cacheStore_illegalCmd (i : Slot) (p : Pixel) : (s.cacheStore i p).illegalCmd = s.illegalCmd := rfl
@[simp] theorem State.cacheStore_refusedPixel (i : Slot) (p : Pixel) : (s.cacheStore i p).refusedPixel = s.refusedPixel := rfl
@[simp] theorem State.cacheStore_refusedFinish (i : Slot) (p : Pixel) : (s.cacheStore i p).refusedFinish = s.refusedFinish := rfl
@[simp] theorem State.cacheStore_descInvalid (i : Slot) (p : Pixel) : (s.cacheStore i p).descInvalid = s.descInvalid := rfl
@[simp] theorem State.cacheStore_busy (i : Slot) (p : Pixel) : (s.cacheStore i p).busy = s.busy := rfl
@[simp] theorem State.cacheStore_pending (i : Slot) (p : Pixel) : (s.cacheStore i p).pending = s.pending := rfl
@[simp] theorem State.cacheStore_out (i : Slot) (p : Pixel) : (s.cacheStore i p).out = s.out := rfl
@[simp] theorem State.cacheStore_reads (i : Slot) (p : Pixel) : (s.cacheStore i p).reads = s.reads := rfl
@[simp] theorem State.cacheStore_outReady (i : Slot) (p : Pixel) : (s.cacheStore i p).outReady = s.outReady := rfl
@[simp] theorem State.cacheStore_rst (i : Slot) (p : Pixel) : (s.cacheStore i p).rst = s.rst := rfl
@[simp] theorem State.cacheStore_work (i : Slot) (p : Pixel) : (s.cacheStore i p).work = s.work := rfl
@[simp] theorem State.cacheStore_events (i : Slot) (p : Pixel) : (s.cacheStore i p).events = s.events := rfl
@[simp] theorem State.cacheStore_draws (i : Slot) (p : Pixel) : (s.cacheStore i p).draws = s.draws := rfl

/-! ## emitBytes -/

@[simp] theorem State.emitBytes_cfg (bytes : List Byte) : (s.emitBytes bytes).cfg = s.cfg := rfl
@[simp] theorem State.emitBytes_cache (bytes : List Byte) : (s.emitBytes bytes).cache = s.cache := rfl
@[simp] theorem State.emitBytes_lastPx (bytes : List Byte) : (s.emitBytes bytes).lastPx = s.lastPx := rfl
@[simp] theorem State.emitBytes_run (bytes : List Byte) : (s.emitBytes bytes).run = s.run := rfl
@[simp] theorem State.emitBytes_phase (bytes : List Byte) : (s.emitBytes bytes).phase = s.phase := rfl
@[simp] theorem State.emitBytes_statsEn (bytes : List Byte) : (s.emitBytes bytes).statsEn = s.statsEn := rfl
@[simp] theorem State.emitBytes_descWidth (bytes : List Byte) : (s.emitBytes bytes).descWidth = s.descWidth := rfl
@[simp] theorem State.emitBytes_descHeight (bytes : List Byte) : (s.emitBytes bytes).descHeight = s.descHeight := rfl
@[simp] theorem State.emitBytes_descChannels (bytes : List Byte) : (s.emitBytes bytes).descChannels = s.descChannels := rfl
@[simp] theorem State.emitBytes_descColorspace (bytes : List Byte) : (s.emitBytes bytes).descColorspace = s.descColorspace := rfl
@[simp] theorem State.emitBytes_statPixels (bytes : List Byte) : (s.emitBytes bytes).statPixels = s.statPixels := rfl
@[simp] theorem State.emitBytes_statBits (bytes : List Byte) : (s.emitBytes bytes).statBits = s.statBits := rfl
@[simp] theorem State.emitBytes_statKpix (bytes : List Byte) : (s.emitBytes bytes).statKpix = s.statKpix := rfl
@[simp] theorem State.emitBytes_statKbits (bytes : List Byte) : (s.emitBytes bytes).statKbits = s.statKbits := rfl
@[simp] theorem State.emitBytes_illegalCmd (bytes : List Byte) : (s.emitBytes bytes).illegalCmd = s.illegalCmd := rfl
@[simp] theorem State.emitBytes_refusedPixel (bytes : List Byte) : (s.emitBytes bytes).refusedPixel = s.refusedPixel := rfl
@[simp] theorem State.emitBytes_refusedFinish (bytes : List Byte) : (s.emitBytes bytes).refusedFinish = s.refusedFinish := rfl
@[simp] theorem State.emitBytes_descInvalid (bytes : List Byte) : (s.emitBytes bytes).descInvalid = s.descInvalid := rfl
@[simp] theorem State.emitBytes_busy (bytes : List Byte) : (s.emitBytes bytes).busy = s.busy := rfl
@[simp] theorem State.emitBytes_pending (bytes : List Byte) : (s.emitBytes bytes).pending = s.pending ++ bytes := rfl
@[simp] theorem State.emitBytes_out (bytes : List Byte) : (s.emitBytes bytes).out = s.out := rfl
@[simp] theorem State.emitBytes_reads (bytes : List Byte) : (s.emitBytes bytes).reads = s.reads := rfl
@[simp] theorem State.emitBytes_outReady (bytes : List Byte) : (s.emitBytes bytes).outReady = s.outReady := rfl
@[simp] theorem State.emitBytes_rst (bytes : List Byte) : (s.emitBytes bytes).rst = s.rst := rfl
@[simp] theorem State.emitBytes_work (bytes : List Byte) : (s.emitBytes bytes).work = s.work := rfl
@[simp] theorem State.emitBytes_events (bytes : List Byte) : (s.emitBytes bytes).events = s.events := rfl
@[simp] theorem State.emitBytes_draws (bytes : List Byte) : (s.emitBytes bytes).draws = s.draws := rfl

/-! ## accept -/

@[simp] theorem State.accept_cfg (fs : List Fetched) : (s.accept fs).cfg = s.cfg := rfl
@[simp] theorem State.accept_cache (fs : List Fetched) : (s.accept fs).cache = s.cache := rfl
@[simp] theorem State.accept_lastPx (fs : List Fetched) : (s.accept fs).lastPx = s.lastPx := rfl
@[simp] theorem State.accept_run (fs : List Fetched) : (s.accept fs).run = s.run := rfl
@[simp] theorem State.accept_phase (fs : List Fetched) : (s.accept fs).phase = s.phase := rfl
@[simp] theorem State.accept_statsEn (fs : List Fetched) : (s.accept fs).statsEn = s.statsEn := rfl
@[simp] theorem State.accept_descWidth (fs : List Fetched) : (s.accept fs).descWidth = s.descWidth := rfl
@[simp] theorem State.accept_descHeight (fs : List Fetched) : (s.accept fs).descHeight = s.descHeight := rfl
@[simp] theorem State.accept_descChannels (fs : List Fetched) : (s.accept fs).descChannels = s.descChannels := rfl
@[simp] theorem State.accept_descColorspace (fs : List Fetched) : (s.accept fs).descColorspace = s.descColorspace := rfl
@[simp] theorem State.accept_statPixels (fs : List Fetched) : (s.accept fs).statPixels = s.statPixels := rfl
@[simp] theorem State.accept_statBits (fs : List Fetched) : (s.accept fs).statBits = s.statBits := rfl
@[simp] theorem State.accept_statKpix (fs : List Fetched) : (s.accept fs).statKpix = s.statKpix := rfl
@[simp] theorem State.accept_statKbits (fs : List Fetched) : (s.accept fs).statKbits = s.statKbits := rfl
@[simp] theorem State.accept_illegalCmd (fs : List Fetched) : (s.accept fs).illegalCmd = s.illegalCmd := rfl
@[simp] theorem State.accept_refusedPixel (fs : List Fetched) : (s.accept fs).refusedPixel = s.refusedPixel := rfl
@[simp] theorem State.accept_refusedFinish (fs : List Fetched) : (s.accept fs).refusedFinish = s.refusedFinish := rfl
@[simp] theorem State.accept_descInvalid (fs : List Fetched) : (s.accept fs).descInvalid = s.descInvalid := rfl
@[simp] theorem State.accept_busy (fs : List Fetched) : (s.accept fs).busy = true := rfl
@[simp] theorem State.accept_pending (fs : List Fetched) : (s.accept fs).pending = s.pending := rfl
@[simp] theorem State.accept_out (fs : List Fetched) : (s.accept fs).out = s.out := rfl
@[simp] theorem State.accept_reads (fs : List Fetched) : (s.accept fs).reads = s.reads := rfl
@[simp] theorem State.accept_outReady (fs : List Fetched) : (s.accept fs).outReady = s.outReady := rfl
@[simp] theorem State.accept_rst (fs : List Fetched) : (s.accept fs).rst = s.rst := rfl
@[simp] theorem State.accept_work (fs : List Fetched) : (s.accept fs).work = fs := rfl
@[simp] theorem State.accept_events (fs : List Fetched) : (s.accept fs).events = s.events := rfl
@[simp] theorem State.accept_draws (fs : List Fetched) : (s.accept fs).draws = s.draws := rfl

/-! ## completeCommand -/

@[simp] theorem State.completeCommand_cfg : (s.completeCommand).cfg = s.cfg := rfl
@[simp] theorem State.completeCommand_cache : (s.completeCommand).cache = s.cache := rfl
@[simp] theorem State.completeCommand_lastPx : (s.completeCommand).lastPx = s.lastPx := rfl
@[simp] theorem State.completeCommand_run : (s.completeCommand).run = s.run := rfl
@[simp] theorem State.completeCommand_phase : (s.completeCommand).phase = s.phase := rfl
@[simp] theorem State.completeCommand_statsEn : (s.completeCommand).statsEn = s.statsEn := rfl
@[simp] theorem State.completeCommand_descWidth : (s.completeCommand).descWidth = s.descWidth := rfl
@[simp] theorem State.completeCommand_descHeight : (s.completeCommand).descHeight = s.descHeight := rfl
@[simp] theorem State.completeCommand_descChannels : (s.completeCommand).descChannels = s.descChannels := rfl
@[simp] theorem State.completeCommand_descColorspace : (s.completeCommand).descColorspace = s.descColorspace := rfl
@[simp] theorem State.completeCommand_statPixels : (s.completeCommand).statPixels = s.statPixels := rfl
@[simp] theorem State.completeCommand_statBits : (s.completeCommand).statBits = s.statBits := rfl
@[simp] theorem State.completeCommand_statKpix : (s.completeCommand).statKpix = s.statKpix := rfl
@[simp] theorem State.completeCommand_statKbits : (s.completeCommand).statKbits = s.statKbits := rfl
@[simp] theorem State.completeCommand_illegalCmd : (s.completeCommand).illegalCmd = s.illegalCmd := rfl
@[simp] theorem State.completeCommand_refusedPixel : (s.completeCommand).refusedPixel = s.refusedPixel := rfl
@[simp] theorem State.completeCommand_refusedFinish : (s.completeCommand).refusedFinish = s.refusedFinish := rfl
@[simp] theorem State.completeCommand_descInvalid : (s.completeCommand).descInvalid = s.descInvalid := rfl
@[simp] theorem State.completeCommand_busy : (s.completeCommand).busy = false := rfl
@[simp] theorem State.completeCommand_pending : (s.completeCommand).pending = s.pending := rfl
@[simp] theorem State.completeCommand_out : (s.completeCommand).out = s.out := rfl
@[simp] theorem State.completeCommand_reads : (s.completeCommand).reads = s.reads := rfl
@[simp] theorem State.completeCommand_outReady : (s.completeCommand).outReady = s.outReady := rfl
@[simp] theorem State.completeCommand_rst : (s.completeCommand).rst = s.rst := rfl
@[simp] theorem State.completeCommand_work : (s.completeCommand).work = s.work := rfl
@[simp] theorem State.completeCommand_events : (s.completeCommand).events = s.events := rfl
@[simp] theorem State.completeCommand_draws : (s.completeCommand).draws = s.draws := rfl

/-! ## transferByte -/

@[simp] theorem State.transferByte_cfg (b : Byte) (rest : List Byte) : (s.transferByte b rest).cfg = s.cfg := rfl
@[simp] theorem State.transferByte_cache (b : Byte) (rest : List Byte) : (s.transferByte b rest).cache = s.cache := rfl
@[simp] theorem State.transferByte_lastPx (b : Byte) (rest : List Byte) : (s.transferByte b rest).lastPx = s.lastPx := rfl
@[simp] theorem State.transferByte_run (b : Byte) (rest : List Byte) : (s.transferByte b rest).run = s.run := rfl
@[simp] theorem State.transferByte_phase (b : Byte) (rest : List Byte) : (s.transferByte b rest).phase = s.phase := rfl
@[simp] theorem State.transferByte_statsEn (b : Byte) (rest : List Byte) : (s.transferByte b rest).statsEn = s.statsEn := rfl
@[simp] theorem State.transferByte_descWidth (b : Byte) (rest : List Byte) : (s.transferByte b rest).descWidth = s.descWidth := rfl
@[simp] theorem State.transferByte_descHeight (b : Byte) (rest : List Byte) : (s.transferByte b rest).descHeight = s.descHeight := rfl
@[simp] theorem State.transferByte_descChannels (b : Byte) (rest : List Byte) : (s.transferByte b rest).descChannels = s.descChannels := rfl
@[simp] theorem State.transferByte_descColorspace (b : Byte) (rest : List Byte) : (s.transferByte b rest).descColorspace = s.descColorspace := rfl
@[simp] theorem State.transferByte_statPixels (b : Byte) (rest : List Byte) : (s.transferByte b rest).statPixels = s.statPixels := rfl
@[simp] theorem State.transferByte_statBits (b : Byte) (rest : List Byte) : (s.transferByte b rest).statBits = s.statBits := rfl
@[simp] theorem State.transferByte_statKpix (b : Byte) (rest : List Byte) : (s.transferByte b rest).statKpix = s.statKpix := rfl
@[simp] theorem State.transferByte_statKbits (b : Byte) (rest : List Byte) : (s.transferByte b rest).statKbits = s.statKbits := rfl
@[simp] theorem State.transferByte_illegalCmd (b : Byte) (rest : List Byte) : (s.transferByte b rest).illegalCmd = s.illegalCmd := rfl
@[simp] theorem State.transferByte_refusedPixel (b : Byte) (rest : List Byte) : (s.transferByte b rest).refusedPixel = s.refusedPixel := rfl
@[simp] theorem State.transferByte_refusedFinish (b : Byte) (rest : List Byte) : (s.transferByte b rest).refusedFinish = s.refusedFinish := rfl
@[simp] theorem State.transferByte_descInvalid (b : Byte) (rest : List Byte) : (s.transferByte b rest).descInvalid = s.descInvalid := rfl
@[simp] theorem State.transferByte_busy (b : Byte) (rest : List Byte) : (s.transferByte b rest).busy = !rest.isEmpty := rfl
@[simp] theorem State.transferByte_pending (b : Byte) (rest : List Byte) : (s.transferByte b rest).pending = rest := rfl
@[simp] theorem State.transferByte_out (b : Byte) (rest : List Byte) : (s.transferByte b rest).out = s.out ++ [b] := rfl
@[simp] theorem State.transferByte_reads (b : Byte) (rest : List Byte) : (s.transferByte b rest).reads = s.reads := rfl
@[simp] theorem State.transferByte_outReady (b : Byte) (rest : List Byte) : (s.transferByte b rest).outReady = s.outReady := rfl
@[simp] theorem State.transferByte_rst (b : Byte) (rest : List Byte) : (s.transferByte b rest).rst = s.rst := rfl
@[simp] theorem State.transferByte_work (b : Byte) (rest : List Byte) : (s.transferByte b rest).work = s.work := rfl
@[simp] theorem State.transferByte_events (b : Byte) (rest : List Byte) : (s.transferByte b rest).events = s.events := rfl
@[simp] theorem State.transferByte_draws (b : Byte) (rest : List Byte) : (s.transferByte b rest).draws = s.draws := rfl

/-! ## offerCommand -/

@[simp] theorem State.offerCommand_cfg (w : CommandWord) : (s.offerCommand w).cfg = s.cfg := rfl
@[simp] theorem State.offerCommand_cache (w : CommandWord) : (s.offerCommand w).cache = s.cache := rfl
@[simp] theorem State.offerCommand_lastPx (w : CommandWord) : (s.offerCommand w).lastPx = s.lastPx := rfl
@[simp] theorem State.offerCommand_run (w : CommandWord) : (s.offerCommand w).run = s.run := rfl
@[simp] theorem State.offerCommand_phase (w : CommandWord) : (s.offerCommand w).phase = s.phase := rfl
@[simp] theorem State.offerCommand_statsEn (w : CommandWord) : (s.offerCommand w).statsEn = s.statsEn := rfl
@[simp] theorem State.offerCommand_descWidth (w : CommandWord) : (s.offerCommand w).descWidth = s.descWidth := rfl
@[simp] theorem State.offerCommand_descHeight (w : CommandWord) : (s.offerCommand w).descHeight = s.descHeight := rfl
@[simp] theorem State.offerCommand_descChannels (w : CommandWord) : (s.offerCommand w).descChannels = s.descChannels := rfl
@[simp] theorem State.offerCommand_descColorspace (w : CommandWord) : (s.offerCommand w).descColorspace = s.descColorspace := rfl
@[simp] theorem State.offerCommand_statPixels (w : CommandWord) : (s.offerCommand w).statPixels = s.statPixels := rfl
@[simp] theorem State.offerCommand_statBits (w : CommandWord) : (s.offerCommand w).statBits = s.statBits := rfl
@[simp] theorem State.offerCommand_statKpix (w : CommandWord) : (s.offerCommand w).statKpix = s.statKpix := rfl
@[simp] theorem State.offerCommand_statKbits (w : CommandWord) : (s.offerCommand w).statKbits = s.statKbits := rfl
@[simp] theorem State.offerCommand_illegalCmd (w : CommandWord) : (s.offerCommand w).illegalCmd = s.illegalCmd := rfl
@[simp] theorem State.offerCommand_refusedPixel (w : CommandWord) : (s.offerCommand w).refusedPixel = s.refusedPixel := rfl
@[simp] theorem State.offerCommand_refusedFinish (w : CommandWord) : (s.offerCommand w).refusedFinish = s.refusedFinish := rfl
@[simp] theorem State.offerCommand_descInvalid (w : CommandWord) : (s.offerCommand w).descInvalid = s.descInvalid := rfl
@[simp] theorem State.offerCommand_busy (w : CommandWord) : (s.offerCommand w).busy = s.busy := rfl
@[simp] theorem State.offerCommand_pending (w : CommandWord) : (s.offerCommand w).pending = s.pending := rfl
@[simp] theorem State.offerCommand_out (w : CommandWord) : (s.offerCommand w).out = s.out := rfl
@[simp] theorem State.offerCommand_reads (w : CommandWord) : (s.offerCommand w).reads = s.reads := rfl
@[simp] theorem State.offerCommand_outReady (w : CommandWord) : (s.offerCommand w).outReady = s.outReady := rfl
@[simp] theorem State.offerCommand_rst (w : CommandWord) : (s.offerCommand w).rst = s.rst := rfl
@[simp] theorem State.offerCommand_work (w : CommandWord) : (s.offerCommand w).work = s.work ++ [.command w] := rfl
@[simp] theorem State.offerCommand_events (w : CommandWord) : (s.offerCommand w).events = s.events := rfl
@[simp] theorem State.offerCommand_draws (w : CommandWord) : (s.offerCommand w).draws = s.draws := rfl

/-! ## clearStream -/

@[simp] theorem State.clearStream_cfg : (s.clearStream).cfg = s.cfg := rfl
@[simp] theorem State.clearStream_cache : (s.clearStream).cache = Vector.replicate 64 Pixel.zero := rfl
@[simp] theorem State.clearStream_lastPx : (s.clearStream).lastPx = s.cfg.lastPxInit.pixel := rfl
@[simp] theorem State.clearStream_run : (s.clearStream).run = 0 := rfl
@[simp] theorem State.clearStream_phase : (s.clearStream).phase = s.phase := rfl
@[simp] theorem State.clearStream_statsEn : (s.clearStream).statsEn = s.statsEn := rfl
@[simp] theorem State.clearStream_descWidth : (s.clearStream).descWidth = s.descWidth := rfl
@[simp] theorem State.clearStream_descHeight : (s.clearStream).descHeight = s.descHeight := rfl
@[simp] theorem State.clearStream_descChannels : (s.clearStream).descChannels = s.descChannels := rfl
@[simp] theorem State.clearStream_descColorspace : (s.clearStream).descColorspace = s.descColorspace := rfl
@[simp] theorem State.clearStream_statPixels : (s.clearStream).statPixels = 0 := rfl
@[simp] theorem State.clearStream_statBits : (s.clearStream).statBits = 0 := rfl
@[simp] theorem State.clearStream_statKpix : (s.clearStream).statKpix = Vector.replicate 6 0 := rfl
@[simp] theorem State.clearStream_statKbits : (s.clearStream).statKbits = Vector.replicate 6 0 := rfl
@[simp] theorem State.clearStream_illegalCmd : (s.clearStream).illegalCmd = s.illegalCmd := rfl
@[simp] theorem State.clearStream_refusedPixel : (s.clearStream).refusedPixel = s.refusedPixel := rfl
@[simp] theorem State.clearStream_refusedFinish : (s.clearStream).refusedFinish = s.refusedFinish := rfl
@[simp] theorem State.clearStream_descInvalid : (s.clearStream).descInvalid = s.descInvalid := rfl
@[simp] theorem State.clearStream_busy : (s.clearStream).busy = s.busy := rfl
@[simp] theorem State.clearStream_pending : (s.clearStream).pending = s.pending := rfl
@[simp] theorem State.clearStream_out : (s.clearStream).out = s.out := rfl
@[simp] theorem State.clearStream_reads : (s.clearStream).reads = s.reads := rfl
@[simp] theorem State.clearStream_outReady : (s.clearStream).outReady = s.outReady := rfl
@[simp] theorem State.clearStream_rst : (s.clearStream).rst = s.rst := rfl
@[simp] theorem State.clearStream_work : (s.clearStream).work = s.work := rfl
@[simp] theorem State.clearStream_events : (s.clearStream).events = s.events := rfl
@[simp] theorem State.clearStream_draws : (s.clearStream).draws = s.draws := rfl

/-! ## raiseFlag -/

@[simp] theorem State.raiseFlag_cfg (f : StickyFlag) : (s.raiseFlag f).cfg = s.cfg := by cases f <;> rfl
@[simp] theorem State.raiseFlag_cache (f : StickyFlag) : (s.raiseFlag f).cache = s.cache := by cases f <;> rfl
@[simp] theorem State.raiseFlag_lastPx (f : StickyFlag) : (s.raiseFlag f).lastPx = s.lastPx := by cases f <;> rfl
@[simp] theorem State.raiseFlag_run (f : StickyFlag) : (s.raiseFlag f).run = s.run := by cases f <;> rfl
@[simp] theorem State.raiseFlag_phase (f : StickyFlag) : (s.raiseFlag f).phase = s.phase := by cases f <;> rfl
@[simp] theorem State.raiseFlag_statsEn (f : StickyFlag) : (s.raiseFlag f).statsEn = s.statsEn := by cases f <;> rfl
@[simp] theorem State.raiseFlag_descWidth (f : StickyFlag) : (s.raiseFlag f).descWidth = s.descWidth := by cases f <;> rfl
@[simp] theorem State.raiseFlag_descHeight (f : StickyFlag) : (s.raiseFlag f).descHeight = s.descHeight := by cases f <;> rfl
@[simp] theorem State.raiseFlag_descChannels (f : StickyFlag) : (s.raiseFlag f).descChannels = s.descChannels := by cases f <;> rfl
@[simp] theorem State.raiseFlag_descColorspace (f : StickyFlag) : (s.raiseFlag f).descColorspace = s.descColorspace := by cases f <;> rfl
@[simp] theorem State.raiseFlag_statPixels (f : StickyFlag) : (s.raiseFlag f).statPixels = s.statPixels := by cases f <;> rfl
@[simp] theorem State.raiseFlag_statBits (f : StickyFlag) : (s.raiseFlag f).statBits = s.statBits := by cases f <;> rfl
@[simp] theorem State.raiseFlag_statKpix (f : StickyFlag) : (s.raiseFlag f).statKpix = s.statKpix := by cases f <;> rfl
@[simp] theorem State.raiseFlag_statKbits (f : StickyFlag) : (s.raiseFlag f).statKbits = s.statKbits := by cases f <;> rfl
@[simp] theorem State.raiseFlag_illegalCmd (f : StickyFlag) :
    (s.raiseFlag f).illegalCmd = (s.illegalCmd || decide (f = .illegalCmd)) := by
  cases f <;> simp [State.raiseFlag]
@[simp] theorem State.raiseFlag_refusedPixel (f : StickyFlag) :
    (s.raiseFlag f).refusedPixel = (s.refusedPixel || decide (f = .refusedPixel)) := by
  cases f <;> simp [State.raiseFlag]
@[simp] theorem State.raiseFlag_refusedFinish (f : StickyFlag) :
    (s.raiseFlag f).refusedFinish = (s.refusedFinish || decide (f = .refusedFinish)) := by
  cases f <;> simp [State.raiseFlag]
@[simp] theorem State.raiseFlag_descInvalid (f : StickyFlag) :
    (s.raiseFlag f).descInvalid = (s.descInvalid || decide (f = .descInvalid)) := by
  cases f <;> simp [State.raiseFlag]
@[simp] theorem State.raiseFlag_busy (f : StickyFlag) : (s.raiseFlag f).busy = s.busy := by cases f <;> rfl
@[simp] theorem State.raiseFlag_pending (f : StickyFlag) : (s.raiseFlag f).pending = s.pending := by cases f <;> rfl
@[simp] theorem State.raiseFlag_out (f : StickyFlag) : (s.raiseFlag f).out = s.out := by cases f <;> rfl
@[simp] theorem State.raiseFlag_reads (f : StickyFlag) : (s.raiseFlag f).reads = s.reads := by cases f <;> rfl
@[simp] theorem State.raiseFlag_outReady (f : StickyFlag) : (s.raiseFlag f).outReady = s.outReady := by cases f <;> rfl
@[simp] theorem State.raiseFlag_rst (f : StickyFlag) : (s.raiseFlag f).rst = s.rst := by cases f <;> rfl
@[simp] theorem State.raiseFlag_work (f : StickyFlag) : (s.raiseFlag f).work = s.work := by cases f <;> rfl
@[simp] theorem State.raiseFlag_events (f : StickyFlag) : (s.raiseFlag f).events = s.events := by cases f <;> rfl
@[simp] theorem State.raiseFlag_draws (f : StickyFlag) : (s.raiseFlag f).draws = s.draws := by cases f <;> rfl

/-! ## countChunk and emitChunk: everything but the counters and the output is unchanged -/

@[simp] theorem State.countChunk_cfg (k : Kind) (nb npix : Nat) : (s.countChunk k nb npix).cfg = s.cfg := by
  unfold State.countChunk; split <;> rfl
@[simp] theorem State.countChunk_cache (k : Kind) (nb npix : Nat) : (s.countChunk k nb npix).cache = s.cache := by
  unfold State.countChunk; split <;> rfl
@[simp] theorem State.countChunk_lastPx (k : Kind) (nb npix : Nat) : (s.countChunk k nb npix).lastPx = s.lastPx := by
  unfold State.countChunk; split <;> rfl
@[simp] theorem State.countChunk_run (k : Kind) (nb npix : Nat) : (s.countChunk k nb npix).run = s.run := by
  unfold State.countChunk; split <;> rfl
@[simp] theorem State.countChunk_phase (k : Kind) (nb npix : Nat) : (s.countChunk k nb npix).phase = s.phase := by
  unfold State.countChunk; split <;> rfl
@[simp] theorem State.countChunk_statsEn (k : Kind) (nb npix : Nat) : (s.countChunk k nb npix).statsEn = s.statsEn := by
  unfold State.countChunk; split <;> rfl
@[simp] theorem State.countChunk_descWidth (k : Kind) (nb npix : Nat) : (s.countChunk k nb npix).descWidth = s.descWidth := by
  unfold State.countChunk; split <;> rfl
@[simp] theorem State.countChunk_descHeight (k : Kind) (nb npix : Nat) : (s.countChunk k nb npix).descHeight = s.descHeight := by
  unfold State.countChunk; split <;> rfl
@[simp] theorem State.countChunk_descChannels (k : Kind) (nb npix : Nat) : (s.countChunk k nb npix).descChannels = s.descChannels := by
  unfold State.countChunk; split <;> rfl
@[simp] theorem State.countChunk_descColorspace (k : Kind) (nb npix : Nat) : (s.countChunk k nb npix).descColorspace = s.descColorspace := by
  unfold State.countChunk; split <;> rfl
@[simp] theorem State.countChunk_illegalCmd (k : Kind) (nb npix : Nat) : (s.countChunk k nb npix).illegalCmd = s.illegalCmd := by
  unfold State.countChunk; split <;> rfl
@[simp] theorem State.countChunk_refusedPixel (k : Kind) (nb npix : Nat) : (s.countChunk k nb npix).refusedPixel = s.refusedPixel := by
  unfold State.countChunk; split <;> rfl
@[simp] theorem State.countChunk_refusedFinish (k : Kind) (nb npix : Nat) : (s.countChunk k nb npix).refusedFinish = s.refusedFinish := by
  unfold State.countChunk; split <;> rfl
@[simp] theorem State.countChunk_descInvalid (k : Kind) (nb npix : Nat) : (s.countChunk k nb npix).descInvalid = s.descInvalid := by
  unfold State.countChunk; split <;> rfl
@[simp] theorem State.countChunk_busy (k : Kind) (nb npix : Nat) : (s.countChunk k nb npix).busy = s.busy := by
  unfold State.countChunk; split <;> rfl
@[simp] theorem State.countChunk_pending (k : Kind) (nb npix : Nat) : (s.countChunk k nb npix).pending = s.pending := by
  unfold State.countChunk; split <;> rfl
@[simp] theorem State.countChunk_out (k : Kind) (nb npix : Nat) : (s.countChunk k nb npix).out = s.out := by
  unfold State.countChunk; split <;> rfl
@[simp] theorem State.countChunk_reads (k : Kind) (nb npix : Nat) : (s.countChunk k nb npix).reads = s.reads := by
  unfold State.countChunk; split <;> rfl
@[simp] theorem State.countChunk_outReady (k : Kind) (nb npix : Nat) : (s.countChunk k nb npix).outReady = s.outReady := by
  unfold State.countChunk; split <;> rfl
@[simp] theorem State.countChunk_rst (k : Kind) (nb npix : Nat) : (s.countChunk k nb npix).rst = s.rst := by
  unfold State.countChunk; split <;> rfl
@[simp] theorem State.countChunk_work (k : Kind) (nb npix : Nat) : (s.countChunk k nb npix).work = s.work := by
  unfold State.countChunk; split <;> rfl
@[simp] theorem State.countChunk_events (k : Kind) (nb npix : Nat) : (s.countChunk k nb npix).events = s.events := by
  unfold State.countChunk; split <;> rfl
@[simp] theorem State.countChunk_draws (k : Kind) (nb npix : Nat) : (s.countChunk k nb npix).draws = s.draws := by
  unfold State.countChunk; split <;> rfl
@[simp] theorem State.emitChunk_cfg (k : Kind) (bytes : List Byte) (npix : Nat) :
    (s.emitChunk k bytes npix).cfg = s.cfg := by
  simp [State.emitChunk]
@[simp] theorem State.emitChunk_cache (k : Kind) (bytes : List Byte) (npix : Nat) :
    (s.emitChunk k bytes npix).cache = s.cache := by
  simp [State.emitChunk]
@[simp] theorem State.emitChunk_lastPx (k : Kind) (bytes : List Byte) (npix : Nat) :
    (s.emitChunk k bytes npix).lastPx = s.lastPx := by
  simp [State.emitChunk]
@[simp] theorem State.emitChunk_run (k : Kind) (bytes : List Byte) (npix : Nat) :
    (s.emitChunk k bytes npix).run = s.run := by
  simp [State.emitChunk]
@[simp] theorem State.emitChunk_phase (k : Kind) (bytes : List Byte) (npix : Nat) :
    (s.emitChunk k bytes npix).phase = s.phase := by
  simp [State.emitChunk]
@[simp] theorem State.emitChunk_statsEn (k : Kind) (bytes : List Byte) (npix : Nat) :
    (s.emitChunk k bytes npix).statsEn = s.statsEn := by
  simp [State.emitChunk]
@[simp] theorem State.emitChunk_descWidth (k : Kind) (bytes : List Byte) (npix : Nat) :
    (s.emitChunk k bytes npix).descWidth = s.descWidth := by
  simp [State.emitChunk]
@[simp] theorem State.emitChunk_descHeight (k : Kind) (bytes : List Byte) (npix : Nat) :
    (s.emitChunk k bytes npix).descHeight = s.descHeight := by
  simp [State.emitChunk]
@[simp] theorem State.emitChunk_descChannels (k : Kind) (bytes : List Byte) (npix : Nat) :
    (s.emitChunk k bytes npix).descChannels = s.descChannels := by
  simp [State.emitChunk]
@[simp] theorem State.emitChunk_descColorspace (k : Kind) (bytes : List Byte) (npix : Nat) :
    (s.emitChunk k bytes npix).descColorspace = s.descColorspace := by
  simp [State.emitChunk]
@[simp] theorem State.emitChunk_illegalCmd (k : Kind) (bytes : List Byte) (npix : Nat) :
    (s.emitChunk k bytes npix).illegalCmd = s.illegalCmd := by
  simp [State.emitChunk]
@[simp] theorem State.emitChunk_refusedPixel (k : Kind) (bytes : List Byte) (npix : Nat) :
    (s.emitChunk k bytes npix).refusedPixel = s.refusedPixel := by
  simp [State.emitChunk]
@[simp] theorem State.emitChunk_refusedFinish (k : Kind) (bytes : List Byte) (npix : Nat) :
    (s.emitChunk k bytes npix).refusedFinish = s.refusedFinish := by
  simp [State.emitChunk]
@[simp] theorem State.emitChunk_descInvalid (k : Kind) (bytes : List Byte) (npix : Nat) :
    (s.emitChunk k bytes npix).descInvalid = s.descInvalid := by
  simp [State.emitChunk]
@[simp] theorem State.emitChunk_busy (k : Kind) (bytes : List Byte) (npix : Nat) :
    (s.emitChunk k bytes npix).busy = s.busy := by
  simp [State.emitChunk]
@[simp] theorem State.emitChunk_pending (k : Kind) (bytes : List Byte) (npix : Nat) :
    (s.emitChunk k bytes npix).pending = s.pending ++ bytes := by
  simp [State.emitChunk]
@[simp] theorem State.emitChunk_out (k : Kind) (bytes : List Byte) (npix : Nat) :
    (s.emitChunk k bytes npix).out = s.out := by
  simp [State.emitChunk]
@[simp] theorem State.emitChunk_reads (k : Kind) (bytes : List Byte) (npix : Nat) :
    (s.emitChunk k bytes npix).reads = s.reads := by
  simp [State.emitChunk]
@[simp] theorem State.emitChunk_outReady (k : Kind) (bytes : List Byte) (npix : Nat) :
    (s.emitChunk k bytes npix).outReady = s.outReady := by
  simp [State.emitChunk]
@[simp] theorem State.emitChunk_rst (k : Kind) (bytes : List Byte) (npix : Nat) :
    (s.emitChunk k bytes npix).rst = s.rst := by
  simp [State.emitChunk]
@[simp] theorem State.emitChunk_work (k : Kind) (bytes : List Byte) (npix : Nat) :
    (s.emitChunk k bytes npix).work = s.work := by
  simp [State.emitChunk]
@[simp] theorem State.emitChunk_events (k : Kind) (bytes : List Byte) (npix : Nat) :
    (s.emitChunk k bytes npix).events = s.events := by
  simp [State.emitChunk]
@[simp] theorem State.emitChunk_draws (k : Kind) (bytes : List Byte) (npix : Nat) :
    (s.emitChunk k bytes npix).draws = s.draws := by
  simp [State.emitChunk]

/-! ## The cache, read after a write -/

@[simp] theorem State.cacheAt_cacheStore_same (i : Slot) (p : Pixel) : (s.cacheStore i p).cacheAt i = p := by
  simp [State.cacheAt, State.cacheStore]

theorem State.cacheAt_cacheStore_other (i j : Slot) (p : Pixel) (h : j ≠ i) :
    (s.cacheStore i p).cacheAt j = s.cacheAt j := by
  have hn : i.toNat ≠ j.toNat := fun e => h (BitVec.eq_of_toNat_eq e.symm)
  simp [State.cacheAt, State.cacheStore, hn]

/-- `cacheAt` reads the field `cache` and nothing else. -/
theorem State.cacheAt_of_cache_eq {s t : State} (h : t.cache = s.cache) (i : Slot) : t.cacheAt i = s.cacheAt i := by
  simp [State.cacheAt, h]

@[simp] theorem State.cacheAt_clearStream (i : Slot) : s.clearStream.cacheAt i = Pixel.zero := by
  simp [State.cacheAt, State.clearStream]

end Sys2Proof.Machine
end

