-- ==== Sys2Proof/Laws/Ops.lean ====
section
/-! SUPPORT. What each shared operation does, once: emission, the run flush, the reset event, and that every instruction
answers a next state. -/

namespace Sys2Proof.Machine

open Sys2Proof.Safety

/-- `EmitChunk` writes exactly one chunk (42_chunk_writer.md R160). -/
theorem emitChunk_written (k : Kind) (bytes : List Byte) (npix : Nat) (s : State) :
    ChunkWritten k bytes npix s (s.emitChunk k bytes npix) where
  bytes_appended := by simp
  bits_counted := by
    unfold State.emitChunk State.countChunk
    cases h : s.statsEn <;> simp [h]
  pixels_counted := by
    unfold State.emitChunk State.countChunk
    cases h : s.statsEn <;> simp [h]
  kind_pixels_counted j := by
    unfold State.emitChunk State.countChunk
    cases h : s.statsEn
    · simp [h]
    · by_cases hj : j = k.num
      · subst hj; simp [h]
      · have hn : k.num.val ≠ j.val := fun e => hj (Fin.ext e.symm)
        simp [h, hj, hn]
  kind_bits_counted j := by
    unfold State.emitChunk State.countChunk
    cases h : s.statsEn
    · simp [h]
    · by_cases hj : j = k.num
      · subst hj; simp [h]
      · have hn : k.num.val ≠ j.val := fun e => hj (Fin.ext e.symm)
        simp [h, hj, hn]
  rest_unchanged := by
    unfold State.emitChunk State.countChunk
    cases h : s.statsEn <;> simp [h, State.emitBytes]

/-- With statistics off, emission only appends bytes (42_chunk_writer.md R160, R167). -/
theorem emitChunk_stats_off (k : Kind) (bytes : List Byte) (npix : Nat) (s : State) (h : s.statsEn = false) :
    s.emitChunk k bytes npix = { s with pending := s.pending ++ bytes } := by
  simp [State.emitChunk, State.countChunk, State.emitBytes, h]

/-- The kind's counters and the totals move together: both sums are kept (10_state.md R31). -/
theorem emitChunk_sums (k : Kind) (bytes : List Byte) (npix : Nat) (s : State)
    (hp : s.statPixels = sum6 s.statKpix) (hb : s.statBits = sum6 s.statKbits) :
    (s.emitChunk k bytes npix).statPixels = sum6 (s.emitChunk k bytes npix).statKpix ∧
      (s.emitChunk k bytes npix).statBits = sum6 (s.emitChunk k bytes npix).statKbits := by
  unfold State.emitChunk State.countChunk
  cases h : s.statsEn
  · simpa [h] using ⟨hp, hb⟩
  · cases k <;> simp [h, sum6, Kind.num, hp, hb] <;> constructor <;> ac_rfl

theorem flushRun_of_zero {s : State} (h : s.run = 0) : s.flushRun = s := by
  simp [State.flushRun, h]

theorem flushRun_of_pending {s : State} (h : s.run ≠ 0) : s.flushRun = (s.emitRun s.run).setRun 0 :=
  if_neg h

/-- After the flush no run is pending (41_engine.md R134). -/
@[simp] theorem flushRun_run (s : State) : s.flushRun.run = 0 := by
  unfold State.flushRun
  split
  · assumption
  · rfl

/-- Equality of pixels, as the model computes it, is equality (40_pixel_model.md R110). -/
theorem eqPx_iff (p q : Pixel) : eqPx p q = true ↔ p = q := by
  cases p; cases q
  simp [eqPx, and_assoc]

/-- The bytes that reach the sink in a reset are some prefix of the waiting ones (70_reset_and_hazards.md R201). -/
theorem abandonedPrefix_eq_take (s : State) :
    ∃ k, k ≤ s.pending.length ∧ s.abandonedPrefix = s.pending.take k := by
  unfold State.abandonedPrefix
  split
  · exact ⟨0, by simp, by simp [*]⟩
  · rename_i b rest h
    refine ⟨Config.freePrefix s.draws % (rest.length + 2), ?_, by rw [h]⟩
    have := Nat.mod_lt (Config.freePrefix s.draws) (show 0 < rest.length + 2 by omega)
    rw [h, List.length_cons]
    omega

/-- No instruction stops the machine (60_exceptions.md R180). -/
theorem exec_answers_next (i : Instr) (s : State) : ∃ t, exec i s = .next t := by
  cases i with
  | init w h c cs en => exact ⟨_, rfl⟩
  | pix p =>
    simp only [exec, execPix]
    split
    · exact ⟨_, rfl⟩
    · split <;> exact ⟨_, rfl⟩
  | finish =>
    simp only [exec, execFinish]
    split <;> exact ⟨_, rfl⟩
  | illegal => exact ⟨_, rfl⟩
  | index i => exact ⟨_, rfl⟩
  | diff dr dg db => exact ⟨_, rfl⟩
  | luma dg drg dbg => exact ⟨_, rfl⟩
  | run n => exact ⟨_, rfl⟩
  | rgb r g b => exact ⟨_, rfl⟩
  | rgba p => exact ⟨_, rfl⟩

/-- PIXEL in ACTIVE, by the two cases its first step decides (41_engine.md R132). -/
theorem execPix_active (p : Pixel) (s : State) (h : s.phase = .active) :
    exec (.pix p) s = if p = s.lastPx then .next s.continueRun else .next (s.flushRun.encodePixel p) := by
  have e : eqPx p s.lastPx = decide (p = s.lastPx) := by
    rw [Bool.eq_iff_iff]; simp [eqPx_iff]
  simp only [exec, execPix, h, ne_eq, not_true_eq_false, if_false, e, decide_eq_true_eq]

/-- PIXEL outside ACTIVE (41_engine.md R143). -/
theorem execPix_inactive (p : Pixel) (s : State) (h : s.phase ≠ .active) :
    exec (.pix p) s = .next (s.raiseFlag .refusedPixel) := by
  simp [exec, execPix, h]

end Sys2Proof.Machine
end

