-- ==== Sys2Proof/Laws/PerInstr.lean ====
section
/-! SUPPORT. Facts about each instruction as syntax. -/

namespace Sys2Proof.Laws.EncodedForm

/-- A command is encoded as one command word, a chunk as a sequence of bytes that is not empty (30_encoding.md R80, R86). -/
def Statement (i : Instr) : Prop :=
  (encode i).isCommand = i.isCommand ∧ encode i ≠ .chunk []

theorem init (w h : BitVec 32) (c cs : Byte) (s : Bool) : Statement (.init w h c cs s) := ⟨rfl, by simp [encode]⟩
theorem pix (p : Pixel) : Statement (.pix p) := ⟨rfl, by simp [encode]⟩
theorem finish : Statement .finish := ⟨rfl, by simp [encode]⟩
theorem illegal : Statement .illegal := ⟨rfl, by simp [encode]⟩
theorem index (i : Slot) : Statement (.index i) := ⟨rfl, by simp [encode]⟩
theorem diff (dr dg db : Int) : Statement (.diff dr dg db) := ⟨rfl, by simp [encode]⟩
theorem luma (dg drg dbg : Int) : Statement (.luma dg drg dbg) := ⟨rfl, by simp [encode]⟩
theorem run (n : BitVec 6) : Statement (.run n) := ⟨rfl, by simp [encode]⟩
theorem rgb (r g b : Byte) : Statement (.rgb r g b) := ⟨rfl, by simp [encode]⟩
theorem rgba (p : Pixel) : Statement (.rgba p) := ⟨rfl, by simp [encode]⟩

end Sys2Proof.Laws.EncodedForm
end

