-- ==== Sys2Proof/Laws/Step.lean ====
section
/-! SUPPORT. What a step can do, once: one inversion lemma for the block's move and one for the step. -/

namespace Sys2Proof.Machine

/-- What a move of the block can be, when it answers a next state. -/
theorem blockMove_cases {s t : State} (h : s.blockMove = .next t) :
    (t = s ∧ (s.rst = true ∨ (s.outReady = false ∧ s.pending ≠ []) ∨
      (s.pending = [] ∧ s.busy = false ∧ s.work = []))) ∨
    (s.rst = false ∧ s.outReady = true ∧ ∃ b rest, s.pending = b :: rest ∧ t = s.transferByte b rest) ∨
    (s.rst = false ∧ s.pending = [] ∧ s.busy = true ∧ t = s.completeCommand) ∨
    (s.rst = false ∧ s.pending = [] ∧ s.busy = false ∧ ∃ f fs i, s.work = f :: fs ∧
      readFetched s.cfg.reservedBits f = .ok i ∧ exec i (s.accept fs) = .next t) := by
  unfold State.blockMove at h
  split at h
  · exact .inl ⟨by simpa using h.symm, .inl ‹_›⟩
  · have hr : s.rst = false := by simpa using ‹¬ s.rst = true›
    split at h
    · split at h
      · exact .inr (.inl ⟨hr, ‹_›, _, _, ‹_›, by simpa using h.symm⟩)
      · exact .inl ⟨by simpa using h.symm, .inr (.inl ⟨by simpa using ‹¬ s.outReady = true›, by simp [*]⟩)⟩
    · split at h
      · exact .inr (.inr (.inl ⟨hr, ‹_›, ‹_›, by simpa using h.symm⟩))
      · have hb : s.busy = false := by simpa using ‹¬ s.busy = true›
        split at h
        · exact .inl ⟨by simpa using h.symm, .inr (.inr ⟨‹_›, hb, ‹_›⟩)⟩
        · rename_i f fs hw
          unfold runFetched at h
          split at h
          · exact .inr (.inr (.inr ⟨hr, ‹_›, hb, f, fs, _, hw, ‹_›, h⟩))
          · cases h

/-- What a step can be, when it answers a next state: a move of the block, or one move of the outside. -/
theorem step_cases {s t : State} (h : step s = .next t) :
    (∃ es, (s.events = es ∨ s.events = .tick :: es) ∧ State.blockMove { s with events := es } = .next t) ∨
    (∃ w es, s.events = .offer w :: es ∧ t = State.offerCommand w { s with events := es }) ∨
    (∃ a es, s.events = .read a :: es ∧ t = State.readPort a { s with events := es }) ∨
    (∃ b es, s.events = .outReady b :: es ∧ t = { s with events := es, outReady := b }) ∨
    (∃ b es, s.events = .rst b :: es ∧ t = State.setRst b { s with events := es }) := by
  unfold step at h
  split at h
  · refine .inl ⟨s.events, .inl rfl, ?_⟩
    exact h
  · rename_i e es he
    cases e with
    | tick => exact .inl ⟨es, .inr he, h⟩
    | offer w => exact .inr (.inl ⟨w, es, he, by simpa [State.hostMove] using h.symm⟩)
    | read a => exact .inr (.inr (.inl ⟨a, es, he, by simpa [State.hostMove] using h.symm⟩))
    | outReady b => exact .inr (.inr (.inr (.inl ⟨b, es, he, by simpa [State.hostMove] using h.symm⟩)))
    | rst b => exact .inr (.inr (.inr (.inr ⟨b, es, he, by simpa [State.hostMove] using h.symm⟩)))

/-- A register read changes nothing but the host's record and the count of free values (10_state.md R35). -/
theorem readPort_frame (a : BitVec 5) (s : State) :
    s.readPort a = { s with reads := (s.readPort a).reads, draws := (s.readPort a).draws } := by
  unfold State.readPort
  split <;> rfl

end Sys2Proof.Machine
end

