-- ==== Sys2Proof/Tests/Slice0.lean ====
section
/-! SUPPORT. The model's own tests, expected results from spec/95_test_vectors.md and the rules' examples, and for each
obligation with hypotheses a witness that meets them. -/

namespace Sys2Proof.Tests

open Sys2Proof.Machine Sys2Proof.Safety

/-- A stream in progress with statistics on, right after INIT, every counter 0. -/
def active (l : LastPxInit) : State :=
  { State.resetWith ⟨l, .refuse⟩ with phase := .active, statsEn := true }

/-- The same with a pending run. -/
def running (n : BitVec 6) : State := { active .opaqueBlack with run := n }

/-- The next state, if there is one. -/
def after : Result → Option State
  | .next t => some t
  | .fault _ => none
  | .refused _ => none

/-- The bytes an instruction emits. -/
def bytesOf (i : Instr) (s : State) : Option (List Byte) := (after (exec i s)).map State.pending

/-! ## Well-formedness: an ill-formed term for each check -/

theorem test_wf_diff_above : Instr.wf (.diff 2 0 0) = false := by decide
theorem test_wf_diff_below : Instr.wf (.diff 0 0 (-3)) = false := by decide
theorem test_wf_diff_green : Instr.wf (.diff 0 2 0) = false := by decide
theorem test_wf_luma_green : Instr.wf (.luma 32 0 0) = false := by decide
theorem test_wf_luma_red_cross : Instr.wf (.luma 0 8 0) = false := by decide
theorem test_wf_luma_blue_cross : Instr.wf (.luma 0 0 (-9)) = false := by decide
theorem test_wf_run_zero : Instr.wf (.run 0) = false := by decide
theorem test_wf_run_63 : Instr.wf (.run 63) = false := by decide

/-! ## Decoding: each row from a word written out from the spec (95_test_vectors.md sections 2 and 3) -/

theorem test_decode_init : decodeTableWord 88 0x8100000008000000080401 = some (.init 8 8 4 1 true) := by decide
theorem test_decode_pix : decodeTableWord 88 0x00000000000000FEFF00FF = some (.pix (px 254 255 0 255)) := by decide
theorem test_decode_finish : decodeTableWord 88 0x4000000000000000000000 = some .finish := by decide
theorem test_decode_illegal : decodeTableWord 88 0xC000000000000000000000 = some .illegal := by decide
theorem test_decode_index : decodeTableWord 8 0x09 = some (.index 9) := by decide
theorem test_decode_diff : decodeTableWord 8 0x73 = some (.diff 1 (-2) 1) := by decide
theorem test_decode_luma : decodeTableWord 16 0x9FB9 = some (.luma (-1) 3 1) := by decide
theorem test_decode_run : decodeTableWord 8 0xC2 = some (.run 3) := by decide
theorem test_decode_rgb : decodeTableWord 32 0xFE0A141E = some (.rgb 10 20 30) := by decide
theorem test_decode_rgba : decodeTableWord 40 0xFF0A141E80 = some (.rgba (px 10 20 30 128)) := by decide

/-- 95_test_vectors.md section 3: the three words with reserved bits set are refused. -/
theorem test_decode_reserved_bits : decodeTableWord 88 0xC100000000000000000000 = none ∧
    decodeTableWord 88 0x040000000000000A141EFF = none ∧ decodeTableWord 88 0x4000000000000000000001 = none := by
  decide

/-! ## The pixel model (95_test_vectors.md section 2) -/

theorem test_hash : hash (px 10 20 30 127) = 9 ∧ hash (px 0 0 0 128) = 0 ∧ hash (px 1 2 3 4) = 14 := by decide
theorem test_d8 : d8 200 100 = 100 ∧ d8 100 200 = -100 ∧ d8 0 1 = -1 := by decide

/-! ## Each instruction (95_test_vectors.md sections 4 to 7) -/

theorem test_init_illegal_descriptor :
    (after (exec (.init 2 1 5 2 true) State.reset)).map (fun t => (t.statusWord, t.readReg 0x03)) =
      some (0x89, 0x0502) := by decide
theorem test_init_keeps_flags :
    (after (exec (.init 1 1 4 0 true)
      { State.reset with phase := .done, statsEn := true, illegalCmd := true, refusedPixel := true })).map
        State.statusWord = some 0x39 := by decide
theorem test_pix_run_flush_then_diff : bytesOf (.pix (px 1 1 1 255)) (running 3) = some [0xC2, 0x7F] := by decide
theorem test_pix_wrapping_delta_is_diff :
    bytesOf (.pix (px 254 255 0 255)) (active .opaqueBlack) = some [0x46] ∧
      bytesOf (.pix (px 254 255 0 255)) (active .zeroAlpha) = some [0xFF, 0xFE, 0xFF, 0x00, 0xFF] := by decide
theorem test_finish_idle : (after (exec .finish State.reset)).map State.statusWord = some 0x40 := by decide
theorem test_finish_flushes : bytesOf .finish (running 61) = some [0xFC] := by decide
theorem test_illegal : (after (exec .illegal State.reset)).map State.statusWord = some 0x10 := by decide
theorem test_index : bytesOf (.index 9) State.reset = some [0x09] := by decide
theorem test_diff : bytesOf (.diff (-2) (-1) 0) State.reset = some [0x46] := by decide
theorem test_luma : bytesOf (.luma (-32) (-8) (-8)) State.reset = some [0x80, 0x00] ∧
    bytesOf (.luma 31 7 7) State.reset = some [0xBF, 0xFF] := by decide
theorem test_run_counts_its_length :
    (after (exec (.run 62) (active .opaqueBlack))).map
      (fun t => (t.pending, t.statPixels, t.statBits, t.statKpix[3], t.statKbits[3])) =
      some ([0xFD], 62, 8, 62, 8) := by decide
theorem test_rgb : bytesOf (.rgb 200 0 0) State.reset = some [0xFE, 0xC8, 0x00, 0x00] := by decide
theorem test_rgba : bytesOf (.rgba (px 10 20 30 128)) State.reset = some [0xFF, 0x0A, 0x14, 0x1E, 0x80] := by decide

/-! ## Witnesses: the hypotheses of the obligations can be met -/

theorem witness_DecodeOfEncodeIsTheInstruction : WellFormed (.diff (-2) 1 1) ∧ WellFormed (.luma (-32) 7 (-8)) ∧
    WellFormed (.run 62) ∧ WellFormed (.pix (px 1 2 3 4)) := by decide
theorem witness_EncodeOfDecodeIsTheForm : decode (.chunk [0x80, 0x00]) = .ok (.luma (-32) (-8) (-8)) ∧
    decode (.command 0x4000000000000000000000#88) = .ok .finish := ⟨rfl, rfl⟩
theorem witness_ChunkSplitsOffByItsFirstByte :
    (WellFormed (.run 1) ∧ encode (.run 1) = .chunk [0xC0]) ∧
      decodeChunk (0xBF :: [0xF8, 0x01]) = .ok (.luma 31 7 0, [0x01]) ∧
      decodeChunk (0xFF :: [1, 2, 3, 4]) = .ok (.rgba (px 1 2 3 4), []) := ⟨by decide, rfl, rfl⟩
theorem witness_FirstBytesOfChunksPartition :
    encode (.index 63) = .chunk [0x3F] ∧ encode (.diff 1 1 1) = .chunk [0x7F] ∧
      encode (.luma (-32) 0 0) = .chunk [0x80, 0x88] ∧ encode (.run 62) = .chunk [0xFD] ∧
      encode (.rgb 1 2 3) = .chunk [0xFE, 1, 2, 3] ∧ encode (.rgba (px 1 2 3 4)) = .chunk [0xFF, 1, 2, 3, 4] := by
  decide
theorem witness_OpFieldSelectsTheCommand :
    decodeCommand 0x00000000000000FFFFFFFF#88 = .ok (.pix (px 255 255 255 255)) ∧
      decodeCommand 0x4000000000000000000000#88 = .ok .finish ∧
      decodeCommand 0x81FFFFFFFFFFFFFFFFFFFF#88 = .ok (.init 0xFFFFFFFF 0xFFFFFFFF 255 255 true) ∧
      decodeCommand 0xC000000000000000000000#88 = .ok .illegal := ⟨rfl, rfl, rfl, rfl⟩
theorem witness_OperandsAssembledFromTheirFields :
    decodeCommand 0x00000000000000FF000001#88 = .ok (.pix (px 255 0 0 1)) ∧
      decodeCommand 0x80FFFFFFFF000000010400#88 = .ok (.init 0xFFFFFFFF 1 4 0 false) := ⟨rfl, rfl⟩
theorem witness_ReservedBitsRefusedOrIgnored :
    (∀ j, reservedAt 0x8000000000000000000000#88 j → (0x8000000000000000000000#88).getLsbD j = false) ∧
      (∀ j, j < 88 → ¬ reservedAt 0xC000000000000000000000#88 j →
        (0xC000000000000000000000#88).getLsbD j = (0xC100000000000000000000#88).getLsbD j) ∧
      (0xC100000000000000000000#88).extractLsb' 86 2 = 0b11#2 := by
  refine ⟨?_, ?_, by decide⟩
  · rintro j (⟨h1, h2⟩ | ⟨h, -, -⟩ | ⟨h | h, -⟩)
    · interval_cases j <;> decide
    all_goals exact absurd h (by decide)
  · intro j hj hr
    have h86 : 85 < j := by
      by_contra hle
      exact hr (.inr (.inr ⟨.inr (by decide), by omega⟩))
    interval_cases j <;> decide
theorem witness_ChunkBytesAreTheTables : WellFormed (.diff (-2) (-2) 1) ∧ WellFormed (.luma 31 (-8) 7) ∧
    WellFormed (.run 62) := by decide
theorem witness_PixelEqualityIsAllFourChannels : (0 : Byte) ≠ (px 1 2 3 255).A := by decide
theorem witness_HashDoesNotDependOnIntermediateWidth : 6 ≤ 6 := by decide
theorem witness_LumaDeltaRange : diffOk ⟨-2, 1, -2, 0⟩ = true := by decide
theorem witness_BiasedDeltasFitTheirFields : ((-2 : Int) ≤ 1 ∧ (1 : Int) ≤ 1) ∧
    ((-32 : Int) ≤ -32 ∧ (-32 : Int) ≤ 31) ∧ ((-8 : Int) ≤ 7 ∧ (7 : Int) ≤ 7) := by decide
theorem witness_IndexAndRunChunksWritten : WellFormed (.run 1) ∧ WellFormed (.run 62) := by decide
theorem witness_DiffAndLumaChunksWritten : WellFormed (.diff 1 (-2) 1) ∧ WellFormed (.luma (-32) 7 (-8)) := by decide
theorem witness_EmittedBytesAreTheEncoding :
    Instr.isCommand (.luma 31 7 7) = false ∧ WellFormed (.luma 31 7 7) := by decide
theorem witness_StatisticsOffLeavesCountersAlone :
    isInit (.pix (px 9 9 9 9)) = false ∧ State.reset.statsEn = false := by decide
theorem witness_BitsCountedAreBytesEmitted : isInit .finish = false ∧ (running 5).statsEn = true := by decide
theorem witness_KindBitsStayMultiplesOfChunkLength :
    ∃ t, exec (.rgba (px 1 2 3 4)) (active .zeroAlpha) = .next t ∧
      (∀ j : Fin 6, kindBits j ∣ (active .zeroAlpha).statKbits[j].toNat) ∧
      (∀ j : Fin 6, (active .zeroAlpha).statKbits[j].toNat ≤ t.statKbits[j].toNat) :=
  ⟨_, rfl, by decide, by decide⟩
theorem witness_PixelOutsideActiveIsRefused : State.reset.phase = .idle ∧
    { State.reset with phase := .done }.phase = .done := by decide
theorem witness_PixelEqualToLastContinuesTheRun :
    (running 60).phase = .active ∧ px 0 0 0 255 = (running 60).lastPx ∧ (running 60).run + 1 ≠ 62 ∧
      (running 61).phase = .active ∧ px 0 0 0 255 = (running 61).lastPx ∧ (running 61).run + 1 = 62 := by decide
theorem witness_PixelThatBreaksARunFlushesItFirst :
    (running 61).phase = .active ∧ px 1 0 0 255 ≠ (running 61).lastPx ∧ (running 61).run ≠ 0 := by decide
theorem witness_CacheHitEmitsIndex : AtLookup (px 0 0 0 0) (active .opaqueBlack) ∧
    (active .opaqueBlack).cacheAt (hash (px 0 0 0 0)) = px 0 0 0 0 :=
  ⟨⟨by decide, by decide, by decide⟩, by decide⟩
theorem atMiss_of (p : Pixel) (s : State) (h1 : s.phase = .active) (h2 : p ≠ s.lastPx) (h3 : s.run = 0)
    (h4 : s.cacheAt (hash p) ≠ p) : AtMiss p s := ⟨⟨h1, h2, h3⟩, h4⟩
theorem witness_CacheMissStoresThePixel : AtMiss (px 0 0 0 128) (active .opaqueBlack) :=
  atMiss_of _ _ (by decide) (by decide) (by decide) (by decide)
theorem witness_SmallDeltaEmitsDiff : AtMiss (px 1 254 1 255) (active .opaqueBlack) ∧
    diff (px 1 254 1 255) (active .opaqueBlack).lastPx = ⟨1, -2, 1, 0⟩ :=
  ⟨atMiss_of _ _ (by decide) (by decide) (by decide) (by decide), by decide⟩
theorem witness_LumaDeltaEmitsLuma : AtMiss (px 38 31 31 255) (active .opaqueBlack) ∧
    diff (px 38 31 31 255) (active .opaqueBlack).lastPx = ⟨38, 31, 31, 0⟩ ∧
    AtMiss (px 216 224 216 255) (active .opaqueBlack) ∧
    diff (px 216 224 216 255) (active .opaqueBlack).lastPx = ⟨-40, -32, -40, 0⟩ :=
  ⟨atMiss_of _ _ (by decide) (by decide) (by decide) (by decide), by decide,
    atMiss_of _ _ (by decide) (by decide) (by decide) (by decide), by decide⟩
theorem witness_FullPixelEmitsRgbOrRgba :
    (AtMiss (px 0 32 0 255) (active .opaqueBlack) ∧
      diffOk (diff (px 0 32 0 255) (active .opaqueBlack).lastPx) = false ∧
      lumaOk (diff (px 0 32 0 255) (active .opaqueBlack).lastPx) = false ∧
      (px 0 32 0 255).A = (active .opaqueBlack).lastPx.A) ∧
    (AtMiss (px 0 0 0 254) (active .opaqueBlack) ∧
      diffOk (diff (px 0 0 0 254) (active .opaqueBlack).lastPx) = false ∧
      lumaOk (diff (px 0 0 0 254) (active .opaqueBlack).lastPx) = false ∧
      (px 0 0 0 254).A ≠ (active .opaqueBlack).lastPx.A) :=
  ⟨⟨atMiss_of _ _ (by decide) (by decide) (by decide) (by decide), by decide, by decide, by decide⟩,
    ⟨atMiss_of _ _ (by decide) (by decide) (by decide) (by decide), by decide, by decide, by decide⟩⟩
theorem witness_PixelEmitsAtMostARunAndAChunk :
    (running 61).phase = .active ∧ (running 61).run.toNat ≤ 61 ∧ px 0 0 0 255 = (running 61).lastPx ∧
      px 9 9 9 9 ≠ (running 61).lastPx := by decide
theorem witness_PixelFrame : (active .zeroAlpha).phase = .active ∧ px 0 0 0 0 = (active .zeroAlpha).lastPx ∧
    px 0 0 0 1 ≠ (active .zeroAlpha).lastPx ∧ (1 : Slot) ≠ hash (px 0 0 0 0) := by decide
theorem witness_FinishEndsTheStream : State.reset.phase = .idle ∧ { State.reset with phase := .done }.phase = .done ∧
    ((active .zeroAlpha).phase = .active ∧ (active .zeroAlpha).run = 0) ∧
    ((running 61).phase = .active ∧ (running 61).run ≠ 0) := by decide
theorem witness_IllegalOnlySetsItsFlag : ∃ t, exec (.pix (px 0 0 0 255)) (running 2) = .next t := ⟨_, rfl⟩
theorem witness_InstructionsWriteOnlyTheirOwnState :
    (∀ p, Instr.illegal ≠ .pix p) ∧ isInit .illegal = false ∧ Instr.illegal ≠ .finish := ⟨by simp, by decide, by decide⟩
theorem witness_StickyFlagsHaveOneCauseEach : ∃ s t : State, step s = .next t ∧ (∀ b es, s.events ≠ .rst b :: es) ∧
    s.illegalCmd = true ∧ s.refusedPixel = true ∧ s.refusedFinish = true ∧ s.descInvalid = true :=
  ⟨{ State.reset with illegalCmd := true, refusedPixel := true, refusedFinish := true, descInvalid := true }, _, rfl,
    by simp [State.reset, State.resetWith], rfl, rfl, rfl, rfl⟩
theorem witness_PhaseLifecycle : State.reset.phase ≠ .active ∧
    { State.reset with events := [.rst true, .tick] }.events = .rst true :: [.tick] := by decide
theorem witness_DescriptorIsPassive : isInit (.pix (px 1 2 3 4)) = false ∧ isInit .finish = false := by decide
theorem witness_RegisterReadMap : (0x06 : BitVec 5) = 0x06 ∧ 0x16 ≤ (0x16 : BitVec 5).toNat ∧
    0x16 ≤ (0x1F : BitVec 5).toNat := by decide
theorem witness_ReadsDoNotShowHiddenState : State.reset.busy = false ∧
    { State.reset with events := [.read 0x05, .read 0x1F] }.events = [0x05, 0x1F].map HostEvent.read := by decide
theorem witness_RegisterReadsHaveNoSideEffect :
    ({ State.reset with events := [.read 0, .read 0] }.events = .read 0 :: [.read 0] ∧ State.reset.busy = false) ∧
      ({ State.reset with events := [.read 0], busy := true }.events = .read 0 :: [] ∧
        { State.reset with events := [.read 0], busy := true }.busy = true) := by decide
theorem witness_StepRunsTheDecodedInstruction :
    (State.reset.cmdReady = true ∧ State.reset.pending = [] ∧ State.reset.events = [] ∧
      readFetched State.reset.cfg.reservedBits (.command 0x4000000000000000000000#88) = .ok .finish) ∧
    readFetched .refuse (.command 0x4000000000000000000001#88) = .error .reservedBits ∧
    readFetched .ignore (.command 0x4000000000000000000001#88) = .ok .finish ∧
    readFetched State.reset.cfg.reservedBits (tableFetched 16 0xBFF8) = .ok (.luma 31 7 0) :=
  ⟨⟨rfl, rfl, rfl, rfl⟩, rfl, rfl, rfl⟩
theorem witness_CommandsAcceptedInOrderWhenReady :
    (∃ t, step { State.reset with events := [.offer 0] } = .next t ∧ t.work ≠ []) ∧
      ∃ t, step { State.reset with work := [.command 0x4000000000000000000000#88] } = .next t ∧
        t.work ≠ [.command 0x4000000000000000000000#88] := ⟨⟨_, rfl, by decide⟩, ⟨_, rfl, by decide⟩⟩
theorem witness_OutputBytesTransferredInOrder :
    let s := { State.reset with pending := [0xFD], busy := true }
    s.events = [] ∧ s.rst = false ∧ s.pending = 0xFD :: [] ∧ s.outReady = true := by decide
theorem witness_StalledSinkNeverMovesOn :
    let s := { State.reset with pending := [0xFD], busy := true, outReady := false }
    s.events = [] ∧ s.rst = false ∧ s.outReady = false ∧ s.pending ≠ [] ∧ s.busy = true := by decide
theorem witness_AcceptedCommandCompletes : ∀ bytes ∈ [[], [0xC0, 0x7F]],
    let s := { State.reset with busy := true, pending := bytes }
    s.events = [] ∧ s.rst = false ∧ s.outReady = true ∧ s.busy = true := by decide
theorem witness_EmittedBytesAreNeverRewritten : ∃ s t : State, s.pending = [0xC0, 0x7F] ∧ step s = .next t ∧
    (∀ b es, s.events ≠ .rst b :: es) :=
  ⟨{ State.reset with pending := [0xC0, 0x7F], busy := true }, _, rfl, rfl, by simp [State.reset, State.resetWith]⟩
theorem witness_ResetGivesTheResetValues :
    { active .zeroAlpha with events := [.rst true], pending := [1], busy := true }.events = .rst true :: [] ∧
      { State.reset with events := [.rst false], rst := true }.events = .rst false :: [] ∧
      { State.reset with events := [.rst false], rst := true }.rst = true ∧
      { State.reset with rst := true }.events = [] := by decide
theorem witness_EveryStepKeepsInv : ∃ s t : State, s.run ≠ 0 ∧ Inv s ∧ step s = .next t :=
  ⟨{ running 3 with busy := true, pending := [0xFD] }, _, by decide,
    { run_bound := by decide, run_active := by decide, slots_hashed := by decide, pixels_sum := by decide,
      bits_sum := by decide, stats_off := by decide, pending_busy := by decide, reset_held := by decide,
      work_commands := by decide }, rfl⟩
theorem witness_StreamBytesDependOnPixelsOnly :
    (active .opaqueBlack).cfg.lastPxInit = State.reset.cfg.lastPxInit ∧
      (∀ i ∈ [.illegal, .pix (px 1 2 3 4)], isPixOrIllegal i = true) ∧
      (∀ i ∈ [.pix (px 1 2 3 4), .illegal, .illegal], isPixOrIllegal i = true) ∧
      pixelsOf [.illegal, .pix (px 1 2 3 4)] = pixelsOf [.pix (px 1 2 3 4), .illegal, .illegal] := by decide
theorem witness_NothingEmittedOutsideAStream : State.reset.phase ≠ .active ∧
    ∀ i ∈ [.pix (px 1 2 3 4), .finish, .illegal], Instr.isCommand i = true ∧ isInit i = false := by decide
theorem witness_StepsDeliverTheCommandsResult :
    let is : List Instr := [.init 1 1 4 0 true, .pix (px 1 2 3 4), .finish]
    let s := { State.reset with work := is.map encode }
    (∀ i ∈ is, i.isCommand = true) ∧ s.events = [] ∧ s.outReady = true ∧ s.rst = false ∧ s.busy = false ∧
      s.pending = [] ∧ s.work = is.map encode := by decide

end Sys2Proof.Tests
end

section
/-! PROOFS. What each instruction does to the control state (the phase and the sticky flags), said once for all ten rows,
and from it the lifecycle of the stream (10_state.md R25) and the causes of the sticky flags (R32). -/

namespace Sys2Proof.Machine

/-! ## The encoder's datapath leaves the control state alone -/

/-- From `s` to `t` only the encoder's datapath was written: the cache, `last_px`, `run`, the waiting output and the
counters. The phase, the sticky flags, the descriptor and the ports are those of `s`. -/
def OnlyDatapathWritten (s t : State) : Prop :=
  t = { s with
    cache := t.cache, lastPx := t.lastPx, run := t.run, pending := t.pending, statBits := t.statBits,
    statPixels := t.statPixels, statKpix := t.statKpix, statKbits := t.statKbits }

namespace OnlyDatapathWritten

variable {s t u : State}

theorem refl (s : State) : OnlyDatapathWritten s s := rfl

theorem trans (hst : OnlyDatapathWritten s t) (htu : OnlyDatapathWritten t u) : OnlyDatapathWritten s u :=
  Eq.trans htu (by rw [hst])

theorem setRun (h : OnlyDatapathWritten s t) (n : BitVec 6) : OnlyDatapathWritten s (t.setRun n) := h.trans rfl

theorem setLastPx (h : OnlyDatapathWritten s t) (p : Pixel) : OnlyDatapathWritten s (t.setLastPx p) := h.trans rfl

end OnlyDatapathWritten

theorem emitChunk_onlyDatapath (k : Kind) (bytes : List Byte) (npix : Nat) (s : State) :
    OnlyDatapathWritten s (s.emitChunk k bytes npix) := by
  unfold State.emitChunk State.countChunk
  split <;> rfl

theorem flushRun_onlyDatapath (s : State) : OnlyDatapathWritten s s.flushRun := by
  unfold State.flushRun
  split
  · exact .refl s
  · exact (emitChunk_onlyDatapath ..).setRun 0

theorem continueRun_onlyDatapath (s : State) : OnlyDatapathWritten s s.continueRun := by
  have counted : OnlyDatapathWritten s (s.setRun (s.run + 1)) := rfl
  dsimp only [State.continueRun]
  split
  · exact (counted.trans (emitChunk_onlyDatapath ..)).setRun 0
  · exact counted

theorem emitDelta_onlyDatapath (p : Pixel) (s : State) : OnlyDatapathWritten s (s.emitDelta p) := by
  dsimp only [State.emitDelta]
  split
  · exact emitChunk_onlyDatapath ..
  · split
    · exact emitChunk_onlyDatapath ..
    · split <;> exact emitChunk_onlyDatapath ..

theorem encodePixel_onlyDatapath (p : Pixel) (s : State) : OnlyDatapathWritten s (s.encodePixel p) := by
  have stored : OnlyDatapathWritten s (s.cacheStore (hash p) p) := rfl
  dsimp only [State.encodePixel]
  split
  · exact (emitChunk_onlyDatapath ..).setLastPx p
  · exact (stored.trans (emitDelta_onlyDatapath p _)).setLastPx p

/-! ## What an instruction does to the control state -/

/-- One sticky flag, read by its name. -/
def State.flag (s : State) : StickyFlag → Bool
  | .illegalCmd => s.illegalCmd
  | .refusedPixel => s.refusedPixel
  | .refusedFinish => s.refusedFinish
  | .descInvalid => s.descInvalid

@[simp] theorem State.flag_raiseFlag (s : State) (f g : StickyFlag) :
    (s.raiseFlag g).flag f = (s.flag f || decide (g = f)) := by
  cases f <;> simp [State.flag]

/-- The phase after an instruction (10_state.md R25). -/
def phaseAfter (s : State) : Instr → Phase
  | .init _ _ _ _ _ => .active
  | .finish => if s.phase = .active then .done else s.phase
  | .pix _ | .illegal | .index _ | .diff _ _ _ | .luma _ _ _ | .run _ | .rgb _ _ _ | .rgba _ => s.phase

/-- The flag an instruction raises: one at most (10_state.md R32). -/
def flagRaised (s : State) : Instr → Option StickyFlag
  | .init _ _ c cs _ => if descLegal c cs then none else some .descInvalid
  | .pix _ => if s.phase = .active then none else some .refusedPixel
  | .finish => if s.phase = .idle then some .refusedFinish else none
  | .illegal => some .illegalCmd
  | .index _ | .diff _ _ _ | .luma _ _ _ | .run _ | .rgb _ _ _ | .rgba _ => none

/-- From `s` to `t` the control state changed as instruction `i` changes it. -/
structure ControlEffect (i : Instr) (s t : State) : Prop where
  phase : t.phase = phaseAfter s i
  flag : ∀ f, t.flag f = (s.flag f || decide (flagRaised s i = some f))

section

variable {i : Instr} {s t : State}

/-- An instruction that only codes pixels leaves the control state alone. -/
theorem OnlyDatapathWritten.controlEffect (h : OnlyDatapathWritten s t) (hp : phaseAfter s i = s.phase)
    (hf : flagRaised s i = none) : ControlEffect i s t where
  phase := by rw [h, hp]
  flag f := by rw [h, hf]; cases f <;> simp [State.flag]

/-- An instruction that is refused raises its flag and leaves the phase alone. -/
theorem controlEffect_raiseFlag {f : StickyFlag} (hp : phaseAfter s i = s.phase) (hf : flagRaised s i = some f) :
    ControlEffect i s (s.raiseFlag f) where
  phase := by simp [hp]
  flag g := by simp [hf]

end

/-- INIT starts a stream and judges the descriptor (41_engine.md R131). -/
theorem exec_init_controlEffect (w h : BitVec 32) (c cs : Byte) (en : Bool) (s : State) :
    ∃ t, exec (.init w h c cs en) s = .next t ∧ ControlEffect (.init w h c cs en) s t := by
  refine ⟨_, rfl, ?_, fun f => ?_⟩
  · split <;> simp [phaseAfter]
  · split <;> cases f <;> simp [flagRaised, State.flag, *]

/-- PIXEL codes the pixel in ACTIVE (41_engine.md R132) and is refused in the other phases (R143). -/
theorem exec_pix_controlEffect (p : Pixel) (s : State) :
    ∃ t, exec (.pix p) s = .next t ∧ ControlEffect (.pix p) s t := by
  by_cases hp : s.phase = .active
  · have quiet : flagRaised s (.pix p) = none := by simp [flagRaised, hp]
    rw [execPix_active p s hp]
    split
    · exact ⟨_, rfl, (continueRun_onlyDatapath s).controlEffect rfl quiet⟩
    · exact ⟨_, rfl, ((flushRun_onlyDatapath s).trans (encodePixel_onlyDatapath p _)).controlEffect rfl quiet⟩
  · exact ⟨_, execPix_inactive p s hp, controlEffect_raiseFlag rfl (by simp [flagRaised, hp])⟩

/-- FINISH is refused in IDLE, does nothing in DONE, and ends the stream in ACTIVE (41_engine.md R141). -/
theorem exec_finish_controlEffect (s : State) : ∃ t, exec .finish s = .next t ∧ ControlEffect .finish s t := by
  cases hp : s.phase with
  | idle =>
    exact ⟨_, by simp only [exec, execFinish, hp],
      controlEffect_raiseFlag (f := .refusedFinish) (by simp [phaseAfter, hp]) (by simp [flagRaised, hp])⟩
  | done =>
    exact ⟨s, by simp only [exec, execFinish, hp],
      (OnlyDatapathWritten.refl s).controlEffect (by simp [phaseAfter, hp]) (by simp [flagRaised, hp])⟩
  | active =>
    refine ⟨s.flushRun.setPhase .done, by simp only [exec, execFinish, hp], ?_, fun f => ?_⟩
    · simp [phaseAfter, hp]
    · rw [flushRun_onlyDatapath s]; cases f <;> simp [flagRaised, State.flag, hp]

/-- Every instruction answers a next state, with its control effect. -/
theorem exec_controlEffect (i : Instr) (s : State) : ∃ t, exec i s = .next t ∧ ControlEffect i s t := by
  cases i with
  | init w h c cs en => exact exec_init_controlEffect w h c cs en s
  | pix p => exact exec_pix_controlEffect p s
  | finish => exact exec_finish_controlEffect s
  | illegal => exact ⟨_, rfl, controlEffect_raiseFlag rfl rfl⟩
  | index k => exact ⟨_, rfl, (emitChunk_onlyDatapath ..).controlEffect rfl rfl⟩
  | diff dr dg db => exact ⟨_, rfl, (emitChunk_onlyDatapath ..).controlEffect rfl rfl⟩
  | luma dg drg dbg => exact ⟨_, rfl, (emitChunk_onlyDatapath ..).controlEffect rfl rfl⟩
  | run n => exact ⟨_, rfl, (emitChunk_onlyDatapath ..).controlEffect rfl rfl⟩
  | rgb r g b => exact ⟨_, rfl, (emitChunk_onlyDatapath ..).controlEffect rfl rfl⟩
  | rgba p => exact ⟨_, rfl, (emitChunk_onlyDatapath ..).controlEffect rfl rfl⟩

/-! ## The phase -/

theorem phaseAfter_eq (s : State) (i : Instr) : phaseAfter s i =
    if Safety.isInit i then .active else if i = .finish ∧ s.phase = .active then .done else s.phase := by
  cases i <;> simp [phaseAfter, Safety.isInit]

/-- Asserting `rst` puts the block into its reset state (70_reset_and_hazards.md R200). -/
theorem setRst_true_phase (s : State) : (s.setRst true).phase = .idle := by
  simp [State.setRst, State.applyReset, State.resetWith]

/-- The three phases have the codes 0, 1 and 2 (10_state.md R25). -/
theorem Phase.code_ne_three (ph : Phase) : ph.code ≠ 3 := by
  cases ph <;> decide

/-- Settles O41: the phase is that of the instruction's control effect, asserting `rst` gives IDLE, and no phase has the
code 3. -/
theorem phaseLifecycle : Obligations.PhaseLifecycle := by
  refine ⟨fun i s => ?_, fun s p hp => execPix_inactive p s hp, fun s es he => ?_, fun s => s.phase.code_ne_three⟩
  · obtain ⟨t, ht, effect⟩ := exec_controlEffect i s
    exact ⟨t, ht, effect.phase.trans (phaseAfter_eq s i)⟩
  · exact ⟨State.setRst true { s with events := es }, by simp only [step, he, State.hostMove], setRst_true_phase _⟩

/-! ## The sticky flags -/

theorem flagRaised_illegalCmd (s : State) (i : Instr) : flagRaised s i = some .illegalCmd ↔ i = .illegal := by
  cases i <;> simp [flagRaised]

theorem flagRaised_refusedPixel (s : State) (i : Instr) :
    flagRaised s i = some .refusedPixel ↔ (∃ p, i = .pix p) ∧ s.phase ≠ .active := by
  cases i <;> simp [flagRaised]

theorem flagRaised_refusedFinish (s : State) (i : Instr) :
    flagRaised s i = some .refusedFinish ↔ i = .finish ∧ s.phase = .idle := by
  cases i <;> simp [flagRaised]

/-- An illegal descriptor has C outside {3, 4} or CS outside {0, 1} (41_engine.md R131). -/
theorem descLegal_eq_false (c cs : Byte) :
    descLegal c cs = false ↔ (c ≠ 3 ∧ c ≠ 4) ∨ (cs ≠ 0 ∧ cs ≠ 1) := by
  simp only [descLegal, Bool.and_eq_false_iff, Bool.or_eq_false_iff, beq_eq_false_iff_ne]

theorem flagRaised_descInvalid (s : State) (i : Instr) : flagRaised s i = some .descInvalid ↔
    ∃ W H C CS S, i = .init W H C CS S ∧ ((C ≠ 3 ∧ C ≠ 4) ∨ (CS ≠ 0 ∧ CS ≠ 1)) := by
  simp only [← descLegal_eq_false]
  cases i <;> simp [flagRaised]

theorem ControlEffect.flag_iff {i : Instr} {s t : State} (h : ControlEffect i s t) (f : StickyFlag) :
    t.flag f = true ↔ s.flag f = true ∨ flagRaised s i = some f := by
  simp [h.flag f]

/-- No flag that stands in `s` is clear in `t`. -/
def FlagsKept (s t : State) : Prop := ∀ f, s.flag f = true → t.flag f = true

theorem FlagsKept.of_flag_eq {s t : State} (h : t.flag = s.flag) : FlagsKept s t := fun f hf => by rw [h, hf]

theorem FlagsKept.trans {s t u : State} (hst : FlagsKept s t) (htu : FlagsKept t u) : FlagsKept s u :=
  fun f hf => htu f (hst f hf)

theorem exec_flagsKept {i : Instr} {s t : State} (h : exec i s = .next t) : FlagsKept s t := by
  obtain ⟨t', ht', effect⟩ := exec_controlEffect i s
  obtain rfl : t' = t := by simpa [ht'] using h
  exact fun f hf => (effect.flag_iff f).2 (.inl hf)

theorem blockMove_flagsKept {s t : State} (h : s.blockMove = .next t) : FlagsKept s t := by
  obtain ⟨rfl, -⟩ | ⟨-, -, b, rest, -, rfl⟩ | ⟨-, -, -, rfl⟩ | ⟨-, -, -, f, fs, i, -, -, hi⟩ := blockMove_cases h
  · exact .of_flag_eq rfl
  · exact .of_flag_eq rfl
  · exact .of_flag_eq rfl
  · exact FlagsKept.trans (t := s.accept fs) (.of_flag_eq rfl) (exec_flagsKept hi)

/-- Only a reset event clears a flag (10_state.md R32). -/
theorem step_flagsKept {s t : State} (h : step s = .next t) (noReset : ∀ b es, s.events ≠ .rst b :: es) :
    FlagsKept s t := by
  obtain ⟨es, -, hm⟩ | ⟨w, es, -, rfl⟩ | ⟨a, es, -, rfl⟩ | ⟨b, es, -, rfl⟩ | ⟨b, es, he, -⟩ := step_cases h
  · exact FlagsKept.trans (t := { s with events := es }) (.of_flag_eq rfl) (blockMove_flagsKept hm)
  · exact .of_flag_eq rfl
  · rw [readPort_frame]; exact .of_flag_eq rfl
  · exact .of_flag_eq rfl
  · exact absurd he (noReset b es)

/-- Settles O40: an instruction's control effect says which flag it raises, and no step without a reset event clears
one. -/
theorem stickyFlagsHaveOneCauseEach : Obligations.StickyFlagsHaveOneCauseEach := by
  refine ⟨fun i s => ?_, fun s t h noReset => ?_⟩
  · obtain ⟨t, ht, effect⟩ := exec_controlEffect i s
    have flag := effect.flag_iff
    refine ⟨t, ht, ?_, ?_, ?_, ?_⟩
    · rw [← flagRaised_illegalCmd s i]; exact flag .illegalCmd
    · rw [← flagRaised_refusedPixel s i]; exact flag .refusedPixel
    · rw [← flagRaised_refusedFinish s i]; exact flag .refusedFinish
    · rw [← flagRaised_descInvalid s i]; exact flag .descInvalid
  · have kept := step_flagsKept h noReset
    exact ⟨kept .illegalCmd, kept .refusedPixel, kept .refusedFinish, kept .descInvalid⟩

end Sys2Proof.Machine
end

section
/-! PROOFS. The register read port: the fields of STATUS (10_state.md R33) and the read map (R34). -/

namespace Sys2Proof.Machine

/-! ## STATUS -/

theorem statusWord_phase (s : State) : s.statusWord.extractLsb' 0 2 = s.phase.code :=
  BitVec.extractLsb'_append_eq_right

/-- STATUS above PHASE is one bit after the other, the most significant first. -/
theorem statusWord_getLsbD_add_two (s : State) (i : Nat) : s.statusWord.getLsbD (i + 2) =
    (((((((0#56).concat s.descInvalid).concat s.refusedFinish).concat s.refusedPixel).concat s.illegalCmd).concat
      s.statsEn).concat s.busy).getLsbD i := by
  unfold State.statusWord
  rw [BitVec.getLsbD_append]
  simp [BitVec.concat]

theorem statusWord_reserved (s : State) : s.statusWord.extractLsb' 8 56 = 0 := by
  ext i hi
  rw [BitVec.getElem_extractLsb', show 8 + i = (i + 6) + 2 by omega, statusWord_getLsbD_add_two]
  simp

theorem statusWord_resetWith (c : Config) : (State.resetWith c).statusWord = 0 := by
  simp only [State.statusWord, State.resetWith]
  decide

/-- Settles O43: PHASE and the reserved bits are slices of STATUS, and the six bits between them follow one another. -/
theorem statusRegisterLayout : Obligations.StatusRegisterLayout := by
  intro s
  have bit := statusWord_getLsbD_add_two s
  simp only [BitVec.getLsbD_concat] at bit
  refine ⟨?_, bit 0, bit 1, bit 2, bit 3, bit 4, bit 5, statusWord_reserved s, statusWord_resetWith⟩
  rw [statusWord_phase]
  cases s.phase <;> rfl

/-! ## The read map -/

/-- The counter `stat_kpix[k]` stands at address 0x08 + k. -/
theorem readReg_kpix (s : State) (k : Fin 6) : s.readReg (BitVec.ofNat 5 (0x08 + k)) = s.statKpix[k] := by
  fin_cases k <;> rfl

/-- The counter `stat_kbits[k]` stands at address 0x10 + k. -/
theorem readReg_kbits (s : State) (k : Fin 6) : s.readReg (BitVec.ofNat 5 (0x10 + k)) = s.statKbits[k] := by
  fin_cases k <;> rfl

/-- The reserved addresses are 0x06, 0x07, 0x0E, 0x0F and those from 0x16 on. -/
theorem readReg_reserved (s : State) {a : BitVec 5}
    (ha : a.toNat = 0x06 ∨ a.toNat = 0x07 ∨ a.toNat = 0x0E ∨ a.toNat = 0x0F ∨ 0x16 ≤ a.toNat) : s.readReg a = 0 := by
  have low : ∀ c : BitVec 5, c.toNat ≤ 0x05 → a ≠ c := by
    rintro c hc rfl
    omega
  have kpix : ¬ (0x08 ≤ a.toNat ∧ a.toNat ≤ 0x0D) := by omega
  have kbits : ¬ (0x10 ≤ a.toNat ∧ a.toNat ≤ 0x15) := by omega
  simp [State.readReg, low, kpix, kbits]

theorem readReg_resetWith (c : Config) (a : BitVec 5) : (State.resetWith c).readReg a = 0 := by
  simp only [State.readReg, statusWord_resetWith]
  simp [State.resetWith]

theorem readReg_channels_colorspace (s : State) :
    (s.readReg 0x03).toNat = s.descChannels.toNat * 256 + s.descColorspace.toNat := by
  have hc := s.descChannels.isLt
  have hs := s.descColorspace.isLt
  have packed : (s.descChannels ++ s.descColorspace).toNat = s.descChannels.toNat * 256 + s.descColorspace.toNat := by
    rw [BitVec.toNat_append, ← Nat.shiftLeft_add_eq_or_of_lt hs, Nat.shiftLeft_eq]
  calc (s.readReg 0x03).toNat
    _ = ((s.descChannels ++ s.descColorspace).setWidth 64).toNat := rfl
    _ = s.descChannels.toNat * 256 + s.descColorspace.toNat := by rw [BitVec.toNat_setWidth, packed]; omega

/-- Settles O44: address by address, the two counter arrays through their index; the hidden state stands at no
address. -/
theorem registerReadMap : Obligations.RegisterReadMap := by
  intro s
  refine ⟨rfl, ?_, ?_, readReg_channels_colorspace s, rfl, rfl, readReg_kpix s, readReg_kbits s, fun a ha => ?_,
    readReg_resetWith, fun a c l r => rfl⟩
  · exact BitVec.toNat_setWidth_of_le (show 32 ≤ 64 by decide)
  · exact BitVec.toNat_setWidth_of_le (show 32 ≤ 64 by decide)
  · exact readReg_reserved s (by simpa [← BitVec.toNat_inj] using ha)

end Sys2Proof.Machine
end

section
/-! PROOFS. The reserved bits of a command word (30_encoding.md R85): in every word they run from a bit fixed by the op
up to bit 85. From that, when the decoder refuses a word, and what the hardware's reading gives for every word. -/

namespace Sys2Proof

open Sys2Proof.Machine Sys2Proof.Safety

/-! ## Which bits are reserved -/

/-- The lowest reserved bit of a word with this op. -/
def reservedFrom : CommandOp → Nat
  | .pixel => 32
  | .finish => 0
  | .init => 81
  | .reserved => 0

theorem reservedMask_eq_shiftLeft (op : CommandOp) : reservedMask op =
    ((BitVec.allOnes (86 - reservedFrom op)).setWidth 88) <<< reservedFrom op := by
  cases op <;> decide

theorem reservedMask_getLsbD (op : CommandOp) (j : Nat) :
    (reservedMask op).getLsbD j = decide (reservedFrom op ≤ j ∧ j < 86) := by
  rw [reservedMask_eq_shiftLeft, Bool.eq_iff_iff]
  simp only [BitVec.getLsbD_shiftLeft, BitVec.getLsbD_setWidth, BitVec.getLsbD_allOnes, Bool.and_eq_true,
    Bool.not_eq_true', decide_eq_true_eq, decide_eq_false_iff_not]
  omega

/-- R81's table: the op field and the op it selects. -/
theorem commandOp_cases (w : CommandWord) :
    (w.extractLsb' 86 2 = 0b00#2 ∧ commandOp w = .pixel) ∨ (w.extractLsb' 86 2 = 0b01#2 ∧ commandOp w = .finish) ∨
      (w.extractLsb' 86 2 = 0b10#2 ∧ commandOp w = .init) ∨
      (w.extractLsb' 86 2 = 0b11#2 ∧ commandOp w = .reserved) := by
  have fourValues : ∀ op : BitVec 2, op = 0b00#2 ∨ op = 0b01#2 ∨ op = 0b10#2 ∨ op = 0b11#2 := by decide
  obtain h | h | h | h := fourValues (w.extractLsb' 86 2) <;> simp [commandOp, h]

theorem commandOp_congr {w w' : CommandWord} (h : w.extractLsb' 86 2 = w'.extractLsb' 86 2) :
    commandOp w = commandOp w' := by
  simp only [commandOp, h]

theorem reservedAt_iff (w : CommandWord) (j : Nat) :
    reservedAt w j ↔ reservedFrom (commandOp w) ≤ j ∧ j < 86 := by
  obtain ⟨field, op⟩ | ⟨field, op⟩ | ⟨field, op⟩ | ⟨field, op⟩ := commandOp_cases w <;>
    simp [reservedAt, reservedFrom, field, op] <;> omega

theorem reservedMask_getLsbD_of_reservedAt {w : CommandWord} {j : Nat} (h : reservedAt w j) :
    (reservedMask (commandOp w)).getLsbD j = true := by
  rw [reservedMask_getLsbD, decide_eq_true ((reservedAt_iff w j).1 h)]

theorem reservedMask_getLsbD_of_not_reservedAt {w : CommandWord} {j : Nat} (h : ¬ reservedAt w j) :
    (reservedMask (commandOp w)).getLsbD j = false := by
  rw [reservedMask_getLsbD, decide_eq_false (mt (reservedAt_iff w j).2 h)]

/-- The op field is not reserved. -/
theorem not_reservedAt_of_le {w : CommandWord} {j : Nat} (h : 86 ≤ j) : ¬ reservedAt w j := by
  rw [reservedAt_iff]
  omega

/-! ## The decoder refuses a word exactly when a reserved bit is set -/

/-- No reserved bit of the word is set. -/
def ReservedClear (w : CommandWord) : Prop := ∀ j, reservedAt w j → w.getLsbD j = false

theorem and_reservedMask_eq_zero_iff (w : CommandWord) :
    w &&& reservedMask (commandOp w) = 0 ↔ ReservedClear w := by
  constructor
  · intro h j hj
    have bit : (w &&& reservedMask (commandOp w)).getLsbD j = false := by simp [h]
    simpa [reservedMask_getLsbD_of_reservedAt hj] using bit
  · intro h
    apply BitVec.eq_of_getLsbD_eq
    intro j _
    by_cases hj : reservedAt w j
    · simp [h j hj]
    · simp [reservedMask_getLsbD_of_not_reservedAt hj]

theorem decodeCommand_of_reservedClear {w : CommandWord} (h : ReservedClear w) :
    decodeCommand w = .ok (commandOperands w) :=
  if_pos ((and_reservedMask_eq_zero_iff w).2 h)

theorem decodeCommand_eq_reservedBits_iff (w : CommandWord) :
    decodeCommand w = .error .reservedBits ↔ ¬ ReservedClear w := by
  constructor
  · intro refused clear
    rw [decodeCommand_of_reservedClear clear] at refused
    cases refused
  · exact fun h => if_neg (mt (and_reservedMask_eq_zero_iff w).1 h)

/-! ## The hardware's reading -/

theorem clearReserved_getLsbD_of_reservedAt {w : CommandWord} {j : Nat} (h : reservedAt w j) :
    (clearReserved w).getLsbD j = false := by
  simp [clearReserved, reservedMask_getLsbD_of_reservedAt h]

theorem clearReserved_getLsbD_of_not_reservedAt {w : CommandWord} {j : Nat} (hj : j < 88) (h : ¬ reservedAt w j) :
    (clearReserved w).getLsbD j = w.getLsbD j := by
  simp only [clearReserved, BitVec.getLsbD_and, BitVec.getLsbD_not, reservedMask_getLsbD_of_not_reservedAt h, hj,
    decide_true, Bool.not_false, Bool.and_true]

/-- Two words that agree on the bits above bit 85 have the same op field. -/
theorem opField_congr {w w' : CommandWord} (h : ∀ j, 86 ≤ j → j < 88 → w.getLsbD j = w'.getLsbD j) :
    w.extractLsb' 86 2 = w'.extractLsb' 86 2 := by
  apply BitVec.eq_of_getLsbD_eq
  intro i hi
  simp only [BitVec.getLsbD_extractLsb', h (86 + i) (by omega) (by omega)]

@[simp] theorem commandOp_clearReserved (w : CommandWord) : commandOp (clearReserved w) = commandOp w :=
  commandOp_congr (opField_congr fun _ low high =>
    clearReserved_getLsbD_of_not_reservedAt high (not_reservedAt_of_le low))

theorem reservedClear_clearReserved (w : CommandWord) : ReservedClear (clearReserved w) := by
  intro j hj
  rw [reservedAt_iff, commandOp_clearReserved, ← reservedAt_iff] at hj
  exact clearReserved_getLsbD_of_reservedAt hj

/-- The hardware reads every word: its operands, as they are with the reserved bits clear. -/
theorem readFetched_ignore_command (w : CommandWord) :
    readFetched .ignore (.command w) = .ok (commandOperands (clearReserved w)) :=
  decodeCommand_of_reservedClear (reservedClear_clearReserved w)

/-- Clearing the reserved bits forgets nothing but them. -/
theorem clearReserved_congr {w w' : CommandWord}
    (h : ∀ j, j < 88 → ¬ reservedAt w j → w.getLsbD j = w'.getLsbD j) : clearReserved w = clearReserved w' := by
  have sameOp : commandOp w = commandOp w' :=
    commandOp_congr (opField_congr fun j low high => h j high (not_reservedAt_of_le low))
  have sameReserved (j : Nat) : reservedAt w j ↔ reservedAt w' j := by
    rw [reservedAt_iff, reservedAt_iff, sameOp]
  apply BitVec.eq_of_getLsbD_eq
  intro j hj
  by_cases hr : reservedAt w j
  · rw [clearReserved_getLsbD_of_reservedAt hr, clearReserved_getLsbD_of_reservedAt ((sameReserved j).1 hr)]
  · rw [clearReserved_getLsbD_of_not_reservedAt hj hr,
      clearReserved_getLsbD_of_not_reservedAt hj (mt (sameReserved j).2 hr), h j hj hr]

theorem commandOperands_eq_illegal {w : CommandWord} (h : commandOp w = .reserved) : commandOperands w = .illegal := by
  simp only [commandOperands, h]

/-- Settles O7: the decoder refuses the words that are not `ReservedClear`, and the hardware reads a word through
`clearReserved`, which is always clear and depends on the bits that are not reserved only. -/
theorem reservedBitsRefusedOrIgnored : Obligations.ReservedBitsRefusedOrIgnored := by
  refine ⟨fun w => ?_, fun w h => ⟨_, decodeCommand_of_reservedClear h⟩,
    fun w => ⟨_, readFetched_ignore_command w⟩, fun w w' h => ?_, fun w h => ?_, fun s => rfl⟩
  · simp [decodeCommand_eq_reservedBits_iff, ReservedClear]
  · rw [readFetched_ignore_command, readFetched_ignore_command, clearReserved_congr h]
  · have op : commandOp w = .reserved := by simp [commandOp, h]
    rw [readFetched_ignore_command, commandOperands_eq_illegal (by rw [commandOp_clearReserved, op])]

end Sys2Proof
end

section
/-! PROOFS. The chunk bytes as numbers (30_encoding.md R87 to R92): the value of each byte, from which its formula and the
range of the first byte both follow. -/

namespace Sys2Proof

/-! ## Fields of a byte as numbers -/

/-- Bit fields put side by side are digits of a number. -/
theorem toNat_append_eq_mul_add {m n : Nat} (x : BitVec m) (y : BitVec n) :
    (x ++ y).toNat = x.toNat * 2 ^ n + y.toNat := by
  rw [BitVec.toNat_append, ← Nat.shiftLeft_add_eq_or_of_lt y.isLt, Nat.shiftLeft_eq]

/-- A number that fits a field is the field's value. -/
theorem toNat_ofInt_of_fits {n : Nat} {v : Int} (low : 0 ≤ v) (high : v < (2 ^ n : Nat)) :
    ((BitVec.ofInt n v).toNat : Int) = v := by
  rw [BitVec.toNat_ofInt, Int.emod_eq_of_lt low high, Int.toNat_of_nonneg low]

/-- A byte is given by its value. -/
theorem eq_ofInt_of_toNat_eq {b : Byte} {v : Int} (h : (b.toNat : Int) = v) : b = BitVec.ofInt 8 v := by
  rw [← h, BitVec.ofInt_natCast, BitVec.ofNat_toNat, BitVec.setWidth_eq]

/-! ## The operand ranges (30_encoding.md R88, R89, R90) -/

theorem wellFormed_diff_iff (dr dg db : Int) : WellFormed (.diff dr dg db) ↔
    (-2 ≤ dr ∧ dr ≤ 1) ∧ (-2 ≤ dg ∧ dg ≤ 1) ∧ (-2 ≤ db ∧ db ≤ 1) := by
  simp [WellFormed, Instr.wf, inRange, and_assoc]

theorem wellFormed_luma_iff (dg drg dbg : Int) : WellFormed (.luma dg drg dbg) ↔
    (-32 ≤ dg ∧ dg ≤ 31) ∧ (-8 ≤ drg ∧ drg ≤ 7) ∧ (-8 ≤ dbg ∧ dbg ≤ 7) := by
  simp [WellFormed, Instr.wf, inRange, and_assoc]

theorem wellFormed_run_iff (n : BitVec 6) : WellFormed (.run n) ↔ 1 ≤ n.toNat ∧ n.toNat ≤ 62 := by
  simp [WellFormed, Instr.wf]

/-! ## The bytes' values -/

theorem indexByte_toNat (i : Slot) : (indexByte i).toNat = i.toNat := by
  rw [indexByte, toNat_append_eq_mul_add, BitVec.toNat_ofNat]
  omega

theorem diffByte_toNat {dr dg db : Int} (h : WellFormed (.diff dr dg db)) :
    ((diffByte dr dg db).toNat : Int) = 64 + 16 * (dr + 2) + 4 * (dg + 2) + (db + 2) := by
  obtain ⟨hr, hg, hb⟩ := (wellFormed_diff_iff dr dg db).1 h
  have red := toNat_ofInt_of_fits (n := 2) (v := dr + 2) (by omega) (by omega)
  have green := toNat_ofInt_of_fits (n := 2) (v := dg + 2) (by omega) (by omega)
  have blue := toNat_ofInt_of_fits (n := 2) (v := db + 2) (by omega) (by omega)
  simp only [diffByte, toNat_append_eq_mul_add, BitVec.toNat_ofNat]
  omega

theorem lumaByte0_toNat {dg drg dbg : Int} (h : WellFormed (.luma dg drg dbg)) :
    ((lumaByte0 dg).toNat : Int) = 128 + (dg + 32) := by
  obtain ⟨hg, -, -⟩ := (wellFormed_luma_iff dg drg dbg).1 h
  have green := toNat_ofInt_of_fits (n := 6) (v := dg + 32) (by omega) (by omega)
  simp only [lumaByte0, toNat_append_eq_mul_add, BitVec.toNat_ofNat]
  omega

theorem lumaByte1_toNat {dg drg dbg : Int} (h : WellFormed (.luma dg drg dbg)) :
    ((lumaByte1 drg dbg).toNat : Int) = 16 * (drg + 8) + (dbg + 8) := by
  obtain ⟨-, hr, hb⟩ := (wellFormed_luma_iff dg drg dbg).1 h
  have red := toNat_ofInt_of_fits (n := 4) (v := drg + 8) (by omega) (by omega)
  have blue := toNat_ofInt_of_fits (n := 4) (v := dbg + 8) (by omega) (by omega)
  simp only [lumaByte1, toNat_append_eq_mul_add]
  omega

theorem runByte_toNat {n : BitVec 6} (h : WellFormed (.run n)) : (runByte n).toNat = 192 + (n.toNat - 1) := by
  obtain ⟨positive, -⟩ := (wellFormed_run_iff n).1 h
  have payload : (n - 1).toNat = n.toNat - 1 := BitVec.toNat_sub_of_le (BitVec.le_def.2 positive)
  rw [runByte, toNat_append_eq_mul_add, payload, BitVec.toNat_ofNat]
  rfl

/-- The first byte of INDEX, DIFF, LUMA and RUN lies in its kind's quarter of the byte range, and RUN's stops short of
the two full-byte tags (30_encoding.md R87 to R90). -/
theorem firstByte_ranges (i : Instr) (b0 : Byte) (tl : List Byte) (wf : WellFormed i)
    (enc : encode i = .chunk (b0 :: tl)) :
    (∀ k, i = .index k → b0.toNat ≤ 0x3F) ∧
    (∀ dr dg db, i = .diff dr dg db → 0x40 ≤ b0.toNat ∧ b0.toNat ≤ 0x7F) ∧
    (∀ dg drg dbg, i = .luma dg drg dbg → 0x80 ≤ b0.toNat ∧ b0.toNat ≤ 0xBF) ∧
    (∀ n, i = .run n → 0xC0 ≤ b0.toNat ∧ b0.toNat ≤ 0xFD) := by
  refine ⟨?_, ?_, ?_, ?_⟩
  · rintro k rfl
    obtain ⟨rfl, -⟩ : indexByte k = b0 ∧ [] = tl := by simpa [encode] using enc
    have value := indexByte_toNat k
    omega
  · rintro dr dg db rfl
    obtain ⟨rfl, -⟩ : diffByte dr dg db = b0 ∧ [] = tl := by simpa [encode] using enc
    obtain ⟨hr, hg, hb⟩ := (wellFormed_diff_iff dr dg db).1 wf
    have value := diffByte_toNat wf
    omega
  · rintro dg drg dbg rfl
    obtain ⟨rfl, -⟩ : lumaByte0 dg = b0 ∧ [lumaByte1 drg dbg] = tl := by simpa [encode] using enc
    obtain ⟨hg, -, -⟩ := (wellFormed_luma_iff dg drg dbg).1 wf
    have value := lumaByte0_toNat wf
    omega
  · rintro n rfl
    obtain ⟨rfl, -⟩ : runByte n = b0 ∧ [] = tl := by simpa [encode] using enc
    obtain ⟨hlow, hhigh⟩ := (wellFormed_run_iff n).1 wf
    have value := runByte_toNat wf
    omega

/-- Settles O8: each byte is given by its value; the examples are computed. -/
theorem chunkBytesAreTheTables : Obligations.ChunkBytesAreTheTables := by
  refine ⟨fun i => ?_, fun dr dg db wf => ?_, fun dg drg dbg wf => ?_, fun n wf => ?_, fun _ _ _ => rfl, fun _ => rfl,
    firstByte_ranges, by decide⟩
  · rw [← indexByte_toNat i, BitVec.ofNat_toNat, BitVec.setWidth_eq, encode]
  · rw [encode, eq_ofInt_of_toNat_eq (diffByte_toNat wf)]
  · rw [encode, eq_ofInt_of_toNat_eq (lumaByte0_toNat wf), eq_ofInt_of_toNat_eq (lumaByte1_toNat wf)]
  · rw [← runByte_toNat wf, BitVec.ofNat_toNat, BitVec.setWidth_eq, encode]

end Sys2Proof
end

section
/-! PROOFS. The pixel model (40_pixel_model.md R110, R111, R113 to R115): equality and the packed form, the hash, the
wrapping channel difference and the small-delta condition. -/

namespace Sys2Proof.Machine

/-! ## Equality -/

@[simp] theorem unpack_pack (p : Pixel) : Pixel.unpack p.pack = p := by
  have red : p.pack.extractLsb' 24 8 = p.R := by
    rw [Pixel.pack, BitVec.extractLsb'_append_eq_of_le (by decide), BitVec.extractLsb'_append_eq_of_le (by decide),
      BitVec.extractLsb'_append_eq_of_le (by decide)]
    exact BitVec.extractLsb'_eq_self
  have green : p.pack.extractLsb' 16 8 = p.G := by
    rw [Pixel.pack, BitVec.extractLsb'_append_eq_of_le (by decide), BitVec.extractLsb'_append_eq_of_le (by decide)]
    exact BitVec.extractLsb'_append_eq_right
  have blue : p.pack.extractLsb' 8 8 = p.B := by
    rw [Pixel.pack, BitVec.extractLsb'_append_eq_of_le (by decide)]
    exact BitVec.extractLsb'_append_eq_right
  have alpha : p.pack.extractLsb' 0 8 = p.A := BitVec.extractLsb'_append_eq_right
  rw [Pixel.unpack, red, green, blue, alpha]

theorem pack_inj {p q : Pixel} : p.pack = q.pack ↔ p = q :=
  (Function.LeftInverse.injective unpack_pack).eq_iff

theorem eqPx_iff_channels (p q : Pixel) : eqPx p q = true ↔ p.R = q.R ∧ p.G = q.G ∧ p.B = q.B ∧ p.A = q.A := by
  simp [eqPx, and_assoc]

theorem eqPx_eq_false_of_alpha_ne {p q : Pixel} (h : p.A ≠ q.A) : eqPx p q = false := by
  rw [Bool.eq_false_iff]
  intro equal
  obtain ⟨-, -, -, alpha⟩ := (eqPx_iff_channels p q).1 equal
  exact h alpha

/-- Settles O10: the packed form determines the pixel, so equality of either is equality of the four channels. -/
theorem pixelEqualityIsAllFourChannels : Obligations.PixelEqualityIsAllFourChannels :=
  ⟨eqPx_iff_channels, fun p q => (eqPx_iff p q).trans pack_inj.symm, fun _ _ h => eqPx_eq_false_of_alpha_ne h.symm,
    by decide⟩

/-! ## The hash -/

theorem hash_toNat (p : Pixel) : (hash p).toNat = hashSum p % 64 := BitVec.toNat_ofNat ..

/-- The sum of R111 fits in 13 bits: each channel is at most 255, and the weights sum to 26. -/
theorem hashSum_le (p : Pixel) : hashSum p ≤ 6630 := by
  have red := p.R.isLt
  have green := p.G.isLt
  have blue := p.B.isLt
  have alpha := p.A.isLt
  unfold hashSum
  omega

/-- Settles O11: the formula and its bound are those of `hashSum`; the listed values are computed. -/
theorem hashIsTheWeightedSumModulo64 : Obligations.HashIsTheWeightedSumModulo64 :=
  ⟨hash_toNat, hashSum_le, by decide⟩

/-! ## The difference -/

/-- `s8` after `u8` is the library's balanced remainder modulo 256. -/
theorem d8_eq_bmod (a b : Byte) : d8 a b = ((a.toNat : Int) - b.toNat).bmod 256 := rfl

theorem neg_128_le_d8 (a b : Byte) : -128 ≤ d8 a b := Int.le_bmod (m := 256) (by decide)

theorem d8_le_127 (a b : Byte) : d8 a b ≤ 127 := Int.bmod_le (m := 256) (by decide)

/-- Wrapping moves the difference by a multiple of 256. -/
theorem dvd_d8_sub (a b : Byte) : 256 ∣ d8 a b - ((a.toNat : Int) - b.toNat) := Int.dvd_bmod_sub_self

/-- Two bytes differ by less than 256, so a difference of 0 modulo 256 means they are equal. -/
theorem d8_eq_zero_iff (a b : Byte) : d8 a b = 0 ↔ a = b := by
  constructor
  · intro h
    have congruent := dvd_d8_sub a b
    have ha := a.isLt
    have hb := b.isLt
    apply BitVec.eq_of_toNat_eq
    omega
  · rintro rfl
    simp [d8_eq_bmod]

/-- Settles O13: the range and the congruence are those of the balanced remainder. -/
theorem channelDifferenceWrapsToSignedByte : Obligations.ChannelDifferenceWrapsToSignedByte :=
  ⟨fun a b => ⟨neg_128_le_d8 a b, d8_le_127 a b, Int.emod_eq_zero_of_dvd (dvd_d8_sub a b)⟩,
    fun a => (d8_eq_zero_iff a a).2 rfl, by decide⟩

/-- Settles O14: the lanes are `diff`'s definition, and the alpha lane is 0 exactly for equal bytes. -/
theorem pixelDifferenceIsLaneByLane : Obligations.PixelDifferenceIsLaneByLane :=
  ⟨fun _ _ => rfl, fun p l => d8_eq_zero_iff p.A l.A, by decide⟩

/-! ## The condition of DIFF -/

@[simp] theorem inRange_iff (lo x hi : Int) : inRange lo x hi = true ↔ lo ≤ x ∧ x ≤ hi := by
  simp [inRange]

theorem diffOk_iff (d : Delta) : diffOk d = true ↔
    d.da = 0 ∧ -2 ≤ d.dr ∧ d.dr ≤ 1 ∧ -2 ≤ d.dg ∧ d.dg ≤ 1 ∧ -2 ≤ d.db ∧ d.db ≤ 1 := by
  simp [diffOk, and_assoc]

/-- Settles O15: the condition is `diffOk_iff`; the corner cases are computed. -/
theorem smallDeltaRange : Obligations.SmallDeltaRange := ⟨diffOk_iff, by decide⟩

end Sys2Proof.Machine
end

section
/-! PROOFS. What the chunk writer's emissions write: the emitted bytes are the encoding of 30_encoding.md R87 to R90, and
one chunk of the kind is written (42_chunk_writer.md R160 to R166). -/

namespace Sys2Proof.Machine

open Sys2Proof.Safety

/-! ## The emitted bytes are the encoding -/

/-- A value that fits a field of `n` bits is the same number in the field and in a byte. -/
theorem ofInt_eq_setWidth_of_fits {n : Nat} {v : Int} (narrow : n ≤ 8) (low : 0 ≤ v) (high : v < (2 ^ n : Nat)) :
    BitVec.ofInt 8 v = (BitVec.ofInt n v).setWidth 8 :=
  (eq_ofInt_of_toNat_eq (by rw [BitVec.toNat_setWidth_of_le narrow, toNat_ofInt_of_fits low high])).symm

theorem emitIndex_eq (i : Slot) (s : State) : s.emitIndex i = s.emitChunk .index [indexByte i] 1 := by
  rw [State.emitIndex, indexByte, ← BitVec.setWidth_eq (_ ++ _), BitVec.setWidth_append_eq_shiftLeft_setWidth_or]
  rfl

theorem emitDiff_eq {dr dg db : Int} (wf : WellFormed (.diff dr dg db)) (s : State) :
    s.emitDiff dr dg db = s.emitChunk .diff [diffByte dr dg db] 1 := by
  obtain ⟨hr, hg, hb⟩ := (wellFormed_diff_iff dr dg db).1 wf
  have red := ofInt_eq_setWidth_of_fits (n := 2) (v := dr + 2) (by decide) (by omega) (by omega)
  have green := ofInt_eq_setWidth_of_fits (n := 2) (v := dg + 2) (by decide) (by omega) (by omega)
  have blue := ofInt_eq_setWidth_of_fits (n := 2) (v := db + 2) (by decide) (by omega) (by omega)
  rw [State.emitDiff, bias2, bias2, bias2, red, green, blue, diffByte, ← BitVec.setWidth_eq (_ ++ _),
    BitVec.setWidth_append_append_append_eq_shiftLeft_setWidth_or]
  rfl

theorem emitLuma_eq {dg drg dbg : Int} (wf : WellFormed (.luma dg drg dbg)) (s : State) :
    s.emitLuma dg drg dbg = s.emitChunk .luma [lumaByte0 dg, lumaByte1 drg dbg] 1 := by
  obtain ⟨hg, hr, hb⟩ := (wellFormed_luma_iff dg drg dbg).1 wf
  have green := ofInt_eq_setWidth_of_fits (n := 6) (v := dg + 32) (by decide) (by omega) (by omega)
  have red := ofInt_eq_setWidth_of_fits (n := 4) (v := drg + 8) (by decide) (by omega) (by omega)
  have blue := ofInt_eq_setWidth_of_fits (n := 4) (v := dbg + 8) (by decide) (by omega) (by omega)
  rw [State.emitLuma, bias32, bias8, bias8, green, red, blue, lumaByte0, lumaByte1, ← BitVec.setWidth_eq (0b10#2 ++ _),
    ← BitVec.setWidth_eq (BitVec.ofInt 4 _ ++ _), BitVec.setWidth_append_eq_shiftLeft_setWidth_or,
    BitVec.setWidth_append_eq_shiftLeft_setWidth_or]
  rfl

/-- The length is not 0, so taking 1 off it borrows nothing, in six bits as in eight. -/
theorem emitRun_eq {n : BitVec 6} (hn : n ≠ 0) (s : State) : s.emitRun n = s.emitChunk .run [runByte n] n.toNat := by
  have payload : n.setWidth 8 - 1 = (n - 1).setWidth 8 := by bv_omega
  rw [State.emitRun, payload, runByte, ← BitVec.setWidth_eq (_ ++ _), BitVec.setWidth_append_eq_shiftLeft_setWidth_or]
  rfl

/-- The value of RUN's byte for every length but 0, of which 63 has no encoding (log 18). -/
theorem runByte_eq_ofNat {n : BitVec 6} (hn : n ≠ 0) : runByte n = BitVec.ofNat 8 (192 + (n.toNat - 1)) := by
  have payload : (n - 1).toNat = n.toNat - 1 := by bv_omega
  have value : (runByte n).toNat = 192 + (n.toNat - 1) := by
    rw [runByte, toNat_append_eq_mul_add, payload]
    rfl
  rw [← value, BitVec.ofNat_toNat, BitVec.setWidth_eq]

/-! ## One chunk is written -/

theorem emitIndex_written (i : Slot) (s : State) :
    ChunkWritten .index [BitVec.ofNat 8 i.toNat] 1 s (s.emitIndex i) := by
  have byte : BitVec.ofNat 8 i.toNat = indexByte i := by rw [← indexByte_toNat i, BitVec.ofNat_toNat, BitVec.setWidth_eq]
  rw [emitIndex_eq, byte]
  exact emitChunk_written ..

theorem emitDiff_written {dr dg db : Int} (wf : WellFormed (.diff dr dg db)) (s : State) :
    ChunkWritten .diff [BitVec.ofInt 8 (64 + 16 * (dr + 2) + 4 * (dg + 2) + (db + 2))] 1 s (s.emitDiff dr dg db) := by
  rw [emitDiff_eq wf, ← eq_ofInt_of_toNat_eq (diffByte_toNat wf)]
  exact emitChunk_written ..

theorem emitLuma_written {dg drg dbg : Int} (wf : WellFormed (.luma dg drg dbg)) (s : State) :
    ChunkWritten .luma [BitVec.ofInt 8 (128 + (dg + 32)), BitVec.ofInt 8 (16 * (drg + 8) + (dbg + 8))] 1 s
      (s.emitLuma dg drg dbg) := by
  rw [emitLuma_eq wf, ← eq_ofInt_of_toNat_eq (lumaByte0_toNat wf), ← eq_ofInt_of_toNat_eq (lumaByte1_toNat wf)]
  exact emitChunk_written ..

theorem emitRun_written {n : BitVec 6} (hn : n ≠ 0) (s : State) :
    ChunkWritten .run [BitVec.ofNat 8 (192 + (n.toNat - 1))] n.toNat s (s.emitRun n) := by
  rw [emitRun_eq hn, ← runByte_eq_ofNat hn]
  exact emitChunk_written ..

theorem emitRgb_written (r g b : Byte) (s : State) : ChunkWritten .rgb [0xFE, r, g, b] 1 s (s.emitRgb r g b) :=
  emitChunk_written ..

theorem emitRgba_written (p : Pixel) (s : State) :
    ChunkWritten .rgba [0xFF, p.R, p.G, p.B, p.A] 1 s (s.emitRgba p) :=
  emitChunk_written ..

end Sys2Proof.Machine
end

section
/-! PROOFS. The commands of a stream (41_engine.md R131 to R143): INIT, PIXEL step by step, and FINISH. -/

namespace Sys2Proof.Machine

open Sys2Proof.Safety

/-! ## INIT -/

/-- The descriptor's check decides only whether DESC_INVALID is raised. -/
theorem exec_init (w h : BitVec 32) (c cs : Byte) (en : Bool) (s : State) :
    exec (.init w h c cs en) s = .next { s.clearStream with
      statsEn := en, descWidth := w, descHeight := h, descChannels := c, descColorspace := cs,
      descInvalid := s.descInvalid || !descLegal c cs, phase := .active } := by
  cases legal : descLegal c cs with
  | false => simp [exec, execInit, legal, State.raiseFlag]
  | true => simp [exec, execInit, legal]

/-- Settles O26: `exec_init`, from any state and in the example. -/
theorem initStartsAStream : Obligations.InitStartsAStream := by
  refine fun s W H C CS S => ⟨exec_init W H C CS S s, fun c => ⟨_, exec_init .., ?_⟩⟩
  simp only [State.statusWord, State.clearStream_busy, State.clearStream_illegalCmd, State.clearStream_refusedPixel,
    State.clearStream_refusedFinish, State.resetWith]
  decide

/-! ## PIXEL outside ACTIVE -/

/-- Settles O27: PIXEL is refused in every phase but ACTIVE. -/
theorem pixelOutsideActiveIsRefused : Obligations.PixelOutsideActiveIsRefused := by
  intro s p outside
  have inactive : s.phase ≠ .active := by
    rcases outside with h | h <;> simp [h]
  exact execPix_inactive p s inactive

/-! ## State that the chunk writer does not see -/

/-- The write `f` touches nothing that the chunk writer reads or writes: a chunk may as well be emitted before it. -/
def CommutesWithEmission (f : State → State) : Prop :=
  ∀ (k : Kind) (bytes : List Byte) (npix : Nat) (s : State), (f s).emitChunk k bytes npix = f (s.emitChunk k bytes npix)

theorem setRun_commutesWithEmission (n : BitVec 6) : CommutesWithEmission (State.setRun n) :=
  fun _ _ _ _ => Eq.symm (apply_ite (State.setRun n) _ _ _)

theorem cacheStore_commutesWithEmission (i : Slot) (q : Pixel) : CommutesWithEmission (State.cacheStore i q) :=
  fun _ _ _ _ => Eq.symm (apply_ite (State.cacheStore i q) _ _ _)

/-- Steps 5 to 7 of PIXEL read `last_px` and emit one chunk. -/
theorem CommutesWithEmission.emitDelta {f : State → State} (hf : CommutesWithEmission f)
    (lastPx : ∀ s, (f s).lastPx = s.lastPx) (p : Pixel) (s : State) : (f s).emitDelta p = f (s.emitDelta p) := by
  simp only [State.emitDelta, lastPx, apply_ite f, State.emitDiff, State.emitLuma, State.emitRgb, State.emitRgba, hf _]

/-! ## PIXEL, step 1: a pixel equal to `last_px` -/

theorem exec_pix_of_eq {p : Pixel} {s : State} (active : s.phase = .active) (same : p = s.lastPx) :
    exec (.pix p) s = .next s.continueRun := by
  rw [execPix_active p s active, if_pos same]

theorem continueRun_of_ne {s : State} (h : s.run + 1 ≠ runMax) : s.continueRun = s.setRun (s.run + 1) :=
  if_neg h

/-- At the maximum the count just made is flushed at once. -/
theorem continueRun_of_eq {s : State} (h : s.run + 1 = runMax) : s.continueRun = (s.emitRun runMax).setRun 0 :=
  calc s.continueRun
    _ = ((s.setRun (s.run + 1)).emitRun runMax).setRun 0 := if_pos h
    _ = ((s.emitRun runMax).setRun (s.run + 1)).setRun 0 := by
      rw [State.emitRun, setRun_commutesWithEmission, State.emitRun]
    _ = (s.emitRun runMax).setRun 0 := rfl

/-- Settles O28: step 1 is `continueRun`, below the maximum and at it. -/
theorem pixelEqualToLastContinuesTheRun : Obligations.PixelEqualToLastContinuesTheRun := by
  intro s p active same
  rw [exec_pix_of_eq active same]
  refine ⟨fun below => ?_, fun full => ⟨s.emitRun runMax, emitRun_written (n := runMax) (by decide) s, ?_⟩⟩
  · rw [continueRun_of_ne below]; rfl
  · rw [continueRun_of_eq full]; rfl

/-! ## PIXEL, step 2: the flush -/

theorem exec_pix_of_ne {p : Pixel} {s : State} (active : s.phase = .active) (differs : p ≠ s.lastPx) :
    exec (.pix p) s = .next (s.flushRun.encodePixel p) := by
  rw [execPix_active p s active, if_neg differs]

/-- With no run pending PIXEL begins at step 3. -/
theorem exec_pix_atLookup {p : Pixel} {s : State} (h : AtLookup p s) : exec (.pix p) s = .next (s.encodePixel p) := by
  rw [exec_pix_of_ne h.active h.differs, flushRun_of_zero h.noRun]

@[simp] theorem flushRun_lastPx (s : State) : s.flushRun.lastPx = s.lastPx := by
  unfold State.flushRun State.emitRun
  split <;> simp

/-- The flush leaves PIXEL at step 3. -/
theorem atLookup_flushRun {p : Pixel} {s : State} (active : s.phase = .active) (differs : p ≠ s.lastPx) :
    AtLookup p s.flushRun where
  active := by rw [flushRun_onlyDatapath s, active]
  differs := by rwa [flushRun_lastPx]
  noRun := flushRun_run s

/-- Settles O29: the flush writes the RUN chunk, and PIXEL from the flushed state begins where the flush ends. -/
theorem pixelThatBreaksARunFlushesItFirst : Obligations.PixelThatBreaksARunFlushesItFirst := by
  intro s p active differs pendingRun
  have flushed : { s.emitRun s.run with run := 0 } = s.flushRun := (flushRun_of_pending pendingRun).symm
  refine ⟨s.emitRun s.run, s.flushRun.encodePixel p, emitRun_written pendingRun s, exec_pix_of_ne active differs, ?_⟩
  rw [flushed, exec_pix_atLookup (atLookup_flushRun active differs)]

/-! ## PIXEL, steps 3 and 4: the cache -/

theorem encodePixel_of_hit {p : Pixel} {s : State} (hit : s.cacheAt (hash p) = p) :
    s.encodePixel p = (s.emitIndex (hash p)).setLastPx p :=
  if_pos ((eqPx_iff _ _).2 hit)

/-- The chunk of a miss may be emitted before the store of step 4. -/
theorem encodePixel_of_miss {p : Pixel} {s : State} (miss : s.cacheAt (hash p) ≠ p) :
    s.encodePixel p = ((s.emitDelta p).cacheStore (hash p) p).setLastPx p := by
  have stored : (s.cacheStore (hash p) p).emitDelta p = (s.emitDelta p).cacheStore (hash p) p :=
    (cacheStore_commutesWithEmission _ _).emitDelta (fun _ => rfl) p s
  rw [← stored]
  exact if_neg (mt (eqPx_iff _ _).1 miss)

theorem exec_pix_atMiss {p : Pixel} {s : State} (h : AtMiss p s) :
    exec (.pix p) s = .next { (s.emitDelta p).cacheStore (hash p) p with lastPx := p } := by
  rw [exec_pix_atLookup h.toAtLookup, encodePixel_of_miss h.miss]
  rfl

/-- Settles O30: a hit in step 3 is `encodePixel_of_hit`. -/
theorem cacheHitEmitsIndex : Obligations.CacheHitEmitsIndex := by
  intro s p lookup hit
  refine ⟨s.emitIndex (hash p), emitIndex_written (hash p) s, ?_⟩
  rw [exec_pix_atLookup lookup, encodePixel_of_hit hit]
  rfl

@[simp] theorem emitDelta_cache (p : Pixel) (s : State) : (s.emitDelta p).cache = s.cache := by
  simp only [State.emitDelta, apply_ite State.cache, State.emitDiff, State.emitLuma, State.emitRgb, State.emitRgba,
    State.emitChunk_cache, ite_self]

/-- Settles O31: the chunk of a miss leaves the cache alone, and the store writes one slot. -/
theorem cacheMissStoresThePixel : Obligations.CacheMissStoresThePixel := by
  intro s p miss
  refine ⟨_, exec_pix_atMiss miss, State.cacheAt_cacheStore_same .., fun i other => ?_⟩
  calc ((s.emitDelta p).cacheStore (hash p) p).cacheAt i
    _ = (s.emitDelta p).cacheAt i := State.cacheAt_cacheStore_other _ _ _ _ other
    _ = s.cacheAt i := State.cacheAt_of_cache_eq (emitDelta_cache p s) i

/-! ## PIXEL, steps 5 to 7: the chunk of a miss -/

theorem lumaOk_iff (d : Delta) : lumaOk d = true ↔
    d.da = 0 ∧ -32 ≤ d.dg ∧ d.dg ≤ 31 ∧ -8 ≤ d.dr - d.dg ∧ d.dr - d.dg ≤ 7 ∧ -8 ≤ d.db - d.dg ∧ d.db - d.dg ≤ 7 := by
  simp [lumaOk, and_assoc]

section

variable {p : Pixel} {s : State} {d : Delta} (delta : d = diff p s.lastPx)
include delta

theorem emitDelta_of_diffOk (small : diffOk d = true) : s.emitDelta p = s.emitDiff d.dr d.dg d.db := by
  subst delta
  exact if_pos small

theorem emitDelta_of_lumaOk (notSmall : diffOk d = false) (luma : lumaOk d = true) :
    s.emitDelta p = s.emitLuma d.dg (d.dr - d.dg) (d.db - d.dg) := by
  subst delta
  simp [State.emitDelta, notSmall, luma]

theorem emitDelta_of_rejected (notSmall : diffOk d = false) (notLuma : lumaOk d = false) :
    s.emitDelta p = if d.da = 0 then s.emitRgb p.R p.G p.B else s.emitRgba p := by
  subst delta
  simp [State.emitDelta, notSmall, notLuma]

end

/-- Settles O32: the ranges are those of `diffOk` and of an encodable DIFF. -/
theorem smallDeltaEmitsDiff : Obligations.SmallDeltaEmitsDiff := by
  intro s p miss d delta alpha hr hr' hg hg' hb hb'
  have small : diffOk d = true := (diffOk_iff d).2 ⟨alpha, hr, hr', hg, hg', hb, hb'⟩
  have wf : WellFormed (.diff d.dr d.dg d.db) := (wellFormed_diff_iff ..).2 ⟨⟨hr, hr'⟩, ⟨hg, hg'⟩, hb, hb'⟩
  refine ⟨_, emitDiff_written wf s, ?_⟩
  rw [exec_pix_atMiss miss, emitDelta_of_diffOk delta small]

/-- Settles O33: the ranges are those of `lumaOk` and of an encodable LUMA. -/
theorem lumaDeltaEmitsLuma : Obligations.LumaDeltaEmitsLuma := by
  intro s p miss d delta notInRange alpha hg hg' hr hr' hb hb'
  have notSmall : diffOk d = false := by
    rw [Bool.eq_false_iff]
    exact fun small => notInRange ((diffOk_iff d).1 small).2
  have luma : lumaOk d = true := (lumaOk_iff d).2 ⟨alpha, hg, hg', hr, hr', hb, hb'⟩
  have wf : WellFormed (.luma d.dg (d.dr - d.dg) (d.db - d.dg)) :=
    (wellFormed_luma_iff ..).2 ⟨⟨hg, hg'⟩, ⟨hr, hr'⟩, hb, hb'⟩
  refine ⟨_, emitLuma_written wf s, ?_⟩
  rw [exec_pix_atMiss miss, emitDelta_of_lumaOk delta notSmall luma]

/-- Settles O34: the alpha lane is 0 exactly for unchanged alpha. -/
theorem fullPixelEmitsRgbOrRgba : Obligations.FullPixelEmitsRgbOrRgba := by
  intro s p miss notSmall notLuma
  have alpha : (diff p s.lastPx).da = 0 ↔ p.A = s.lastPx.A := d8_eq_zero_iff ..
  rw [exec_pix_atMiss miss, emitDelta_of_rejected rfl notSmall notLuma]
  refine ⟨fun kept => ⟨_, emitRgb_written p.R p.G p.B s, ?_⟩, fun changed => ⟨_, emitRgba_written p s, ?_⟩⟩
  · rw [if_pos (alpha.2 kept)]
  · rw [if_neg (mt alpha.1 changed)]

/-! ## FINISH -/

section

variable {s : State}

theorem exec_finish_idle (h : s.phase = .idle) : exec .finish s = .next (s.raiseFlag .refusedFinish) := by
  simp only [exec, execFinish, h]

theorem exec_finish_done (h : s.phase = .done) : exec .finish s = .next s := by
  simp only [exec, execFinish, h]

theorem exec_finish_active (h : s.phase = .active) : exec .finish s = .next (s.flushRun.setPhase .done) := by
  simp only [exec, execFinish, h]

end

/-- Settles O37: phase by phase, and in ACTIVE by whether the flush has a run to write. -/
theorem finishEndsTheStream : Obligations.FinishEndsTheStream := by
  refine fun s => ⟨exec_finish_idle, exec_finish_done, fun active noRun => ?_, fun active pendingRun => ?_⟩
  · rw [exec_finish_active active, flushRun_of_zero noRun]
    rfl
  · refine ⟨s.emitRun s.run, emitRun_written pendingRun s, ?_⟩
    rw [exec_finish_active active, flushRun_of_pending pendingRun]
    rfl

end Sys2Proof.Machine
end

section
/-! PROOFS. State that no instruction but INIT reads: the descriptor (41_engine.md R146) and the flag ILLEGAL_CMD (R142).
Every such instruction commutes with a write to it. -/

namespace Sys2Proof.Machine

open Sys2Proof.Safety

/-- The write `f` touches nothing that an instruction other than INIT reads, and it commutes with everything that such an
instruction writes. -/
structure Unread (f : State → State) : Prop where
  emission : CommutesWithEmission f
  raiseFlag : ∀ flag s, (f s).raiseFlag flag = f (s.raiseFlag flag)
  phase : ∀ s, (f s).phase = s.phase := by intros; rfl
  lastPx : ∀ s, (f s).lastPx = s.lastPx := by intros; rfl
  run : ∀ s, (f s).run = s.run := by intros; rfl
  cache : ∀ s, (f s).cache = s.cache := by intros; rfl
  setRun : ∀ n s, (f s).setRun n = f (s.setRun n) := by intros; rfl
  setLastPx : ∀ p s, (f s).setLastPx p = f (s.setLastPx p) := by intros; rfl
  cacheStore : ∀ i p s, (f s).cacheStore i p = f (s.cacheStore i p) := by intros; rfl
  setPhase : ∀ ph s, (f s).setPhase ph = f (s.setPhase ph) := by intros; rfl

namespace Unread

variable {f : State → State} (hf : Unread f)
include hf

theorem emitRun (n : BitVec 6) (s : State) : (f s).emitRun n = f (s.emitRun n) := hf.emission ..

theorem flushRun (s : State) : (f s).flushRun = f s.flushRun := by
  simp only [State.flushRun, hf.run, hf.emitRun, hf.setRun, apply_ite f]

theorem continueRun (s : State) : (f s).continueRun = f s.continueRun := by
  simp only [State.continueRun, hf.run, hf.emitRun, hf.setRun, apply_ite f]

theorem encodePixel (p : Pixel) (s : State) : (f s).encodePixel p = f (s.encodePixel p) := by
  have slot : (f s).cacheAt (hash p) = s.cacheAt (hash p) := State.cacheAt_of_cache_eq (hf.cache s) _
  simp only [State.encodePixel, slot, State.emitIndex, hf.emission _, hf.cacheStore, hf.emission.emitDelta hf.lastPx,
    hf.setLastPx, apply_ite f]

theorem exec_pix (p : Pixel) (s : State) : ∃ t, exec (.pix p) s = .next t ∧ exec (.pix p) (f s) = .next (f t) := by
  by_cases active : s.phase = .active
  · have active' : (f s).phase = .active := (hf.phase s).trans active
    by_cases same : p = s.lastPx
    · refine ⟨_, exec_pix_of_eq active same, ?_⟩
      rw [exec_pix_of_eq active' (same.trans (hf.lastPx s).symm), hf.continueRun]
    · refine ⟨_, exec_pix_of_ne active same, ?_⟩
      rw [exec_pix_of_ne active' (by rwa [hf.lastPx]), hf.flushRun, hf.encodePixel]
  · refine ⟨_, execPix_inactive p s active, ?_⟩
    rw [execPix_inactive p (f s) (by rwa [hf.phase]), hf.raiseFlag]

theorem exec_finish (s : State) : ∃ t, exec .finish s = .next t ∧ exec .finish (f s) = .next (f t) := by
  have phase := hf.phase s
  cases h : s.phase with
  | idle => exact ⟨_, exec_finish_idle h, by rw [exec_finish_idle (phase.trans h), hf.raiseFlag]⟩
  | done => exact ⟨_, exec_finish_done h, exec_finish_done (phase.trans h)⟩
  | active =>
    exact ⟨_, exec_finish_active h, by rw [exec_finish_active (phase.trans h), hf.flushRun, hf.setPhase]⟩

/-- Every instruction but INIT commutes with a write to unread state. -/
theorem exec_of_not_init {i : Instr} (notInit : isInit i = false) (s : State) :
    ∃ t, exec i s = .next t ∧ exec i (f s) = .next (f t) := by
  cases i with
  | init w h c cs en => cases notInit
  | pix p => exact hf.exec_pix p s
  | finish => exact hf.exec_finish s
  | illegal => exact ⟨_, rfl, congrArg Host.Outcome.next (hf.raiseFlag ..)⟩
  | index k => exact ⟨_, rfl, congrArg Host.Outcome.next (hf.emission ..)⟩
  | diff dr dg db => exact ⟨_, rfl, congrArg Host.Outcome.next (hf.emission ..)⟩
  | luma dg drg dbg => exact ⟨_, rfl, congrArg Host.Outcome.next (hf.emission ..)⟩
  | run n => exact ⟨_, rfl, congrArg Host.Outcome.next (hf.emission ..)⟩
  | rgb r g b => exact ⟨_, rfl, congrArg Host.Outcome.next (hf.emission ..)⟩
  | rgba p => exact ⟨_, rfl, congrArg Host.Outcome.next (hf.emission ..)⟩

end Unread

/-- The state with another descriptor. -/
def State.setDescriptor (w h : BitVec 32) (c cs : Byte) (s : State) : State :=
  { s with descWidth := w, descHeight := h, descChannels := c, descColorspace := cs }

theorem setDescriptor_unread (w h : BitVec 32) (c cs : Byte) : Unread (State.setDescriptor w h c cs) where
  emission _ _ _ _ := Eq.symm (apply_ite (State.setDescriptor w h c cs) _ _ _)
  raiseFlag flag _ := by cases flag <;> rfl

theorem raiseFlag_illegalCmd_unread : Unread (State.raiseFlag .illegalCmd) where
  emission _ _ _ _ := Eq.symm (apply_ite (State.raiseFlag .illegalCmd) _ _ _)
  raiseFlag flag _ := by cases flag <;> rfl

/-- Settles O38: the flag ILLEGAL_CMD is state that PIXEL does not read. -/
theorem illegalOnlySetsItsFlag : Obligations.IllegalOnlySetsItsFlag := by
  refine fun s => ⟨rfl, fun p t ht => ?_⟩
  obtain ⟨t', ht', flagged⟩ := raiseFlag_illegalCmd_unread.exec_pix p s
  obtain rfl : t' = t := by simpa [ht'] using ht
  exact flagged

/-- Settles O42: the descriptor is state that no instruction but INIT reads. -/
theorem descriptorIsPassive : Obligations.DescriptorIsPassive :=
  fun _ s W H C CS notInit => (setDescriptor_unread W H C CS).exec_of_not_init notInit s

end Sys2Proof.Machine
end

section
/-! PROOFS. The six chunk instructions (42_chunk_writer.md R161 to R166): the answer of each is the state in which its one
chunk is written. -/

namespace Sys2Proof.Machine

open Sys2Proof.Safety

/-- An encodable RUN is not empty (30_encoding.md R90). -/
theorem ne_zero_of_wellFormed_run {n : BitVec 6} (wf : WellFormed (.run n)) : n ≠ 0 := by
  obtain ⟨positive, -⟩ := (wellFormed_run_iff n).1 wf
  rintro rfl
  exact absurd positive (by decide)

/-- Settles O18: INDEX answers `emitIndex`, and RUN answers `emitRun`, whose byte needs a run that is not empty. -/
theorem indexAndRunChunksWritten : Obligations.IndexAndRunChunksWritten := fun s =>
  ⟨fun h => ⟨s.emitIndex h, rfl, emitIndex_written h s⟩,
    fun n wf => ⟨s.emitRun n, rfl, emitRun_written (ne_zero_of_wellFormed_run wf) s⟩⟩

/-- Settles O19: DIFF answers `emitDiff` and LUMA answers `emitLuma`, whose deltas fit their fields. -/
theorem diffAndLumaChunksWritten : Obligations.DiffAndLumaChunksWritten := fun s =>
  ⟨fun dr dg db wf => ⟨s.emitDiff dr dg db, rfl, emitDiff_written wf s⟩,
    fun dg drg dbg wf => ⟨s.emitLuma dg drg dbg, rfl, emitLuma_written wf s⟩⟩

/-- Settles O20: RGB answers `emitRgb` and RGBA answers `emitRgba`, whose bytes are raw. -/
theorem rgbAndRgbaChunksWritten : Obligations.RgbAndRgbaChunksWritten := fun s =>
  ⟨fun r g b => ⟨s.emitRgb r g b, rfl, emitRgb_written r g b s⟩,
    fun p => ⟨s.emitRgba p, rfl, emitRgba_written p s⟩⟩

end Sys2Proof.Machine
end

section
/-! PROOFS. Runs of steps, and the stalled sink (70_reset_and_hazards.md R207): a step that changes nothing stays where it is
for any number of steps. -/

namespace Sys2Proof.Machine

open Sys2Proof.Safety

/-- No steps leave the state as it is. -/
@[simp] theorem runSteps_zero (s : State) : runSteps 0 s = .next s := rfl

/-- A run of any machine whose first step answers a next state goes on from that state. -/
theorem coreRun_succ_of_step (M : Host.Core) {s t : M.State} (h : M.step s = .next t) (k : Nat) :
    M.run (k + 1) s = M.run k t := by
  simp only [Host.Core.run, h]

/-- The same for runs of this machine, through its own step. -/
theorem runSteps_succ_of_step {s t : State} (h : step s = .next t) (k : Nat) : runSteps (k + 1) s = runSteps k t :=
  coreRun_succ_of_step Sys2Proof.core h k

/-- A state that one step leaves unchanged is left unchanged by every number of steps. -/
theorem runSteps_of_fixed {s : State} (fixed : step s = .next s) (k : Nat) : runSteps k s = .next s := by
  induction k with
  | zero => rfl
  | succ k ih => rw [runSteps_succ_of_step fixed, ih]

/-- With nothing happening outside, a step is a move of the block (log 6). -/
theorem step_of_no_events {s : State} (quiet : s.events = []) : step s = s.blockMove := by
  simp only [step, quiet]

/-- A byte that waits for a sink that is not ready holds the block where it is, in reset or out of it (R207). -/
theorem blockMove_of_stalled {s : State} (notReady : s.outReady = false) (waiting : s.pending ≠ []) :
    s.blockMove = .next s := by
  obtain ⟨b, rest, hp⟩ := List.exists_cons_of_ne_nil waiting
  simp [State.blockMove, hp, notReady]

/-- A byte waits exactly when `out_valid` is 1 (10_state.md R41). -/
theorem outValid_iff (s : State) : s.outValid = true ↔ s.pending ≠ [] := by simp [State.outValid]

/-- A block with a command in progress takes no other (10_state.md R40). -/
theorem cmdReady_of_busy {s : State} (busy : s.busy = true) : s.cmdReady = false := by simp [State.cmdReady, busy]

/-- Settles O50: the stalled state is a fixed point of the step, so every run of steps ends in it. -/
theorem stalledSinkNeverMovesOn : Obligations.StalledSinkNeverMovesOn := by
  intro s quiet notReady waiting busy k
  have fixed : step s = .next s := (step_of_no_events quiet).trans (blockMove_of_stalled notReady waiting)
  exact ⟨s, runSteps_of_fixed fixed k, rfl, (outValid_iff s).2 waiting, busy, cmdReady_of_busy busy⟩

end Sys2Proof.Machine
end

section
/-! PROOFS. The decoder and the encoder of command words (30_encoding.md R80 to R85): a word is given by its fields,
so a word decodes to an instruction exactly when it is that instruction's encoding. -/

namespace Sys2Proof

open Sys2Proof.Machine Sys2Proof.Safety

/-! ## Fields of a word -/

/-- A word is two fields put side by side exactly when its slices are these fields. -/
theorem eq_append_iff {m n : Nat} {x : BitVec (m + n)} {hi : BitVec m} {lo : BitVec n} :
    x = hi ++ lo ↔ x.extractLsb' n m = hi ∧ x.extractLsb' 0 n = lo := by
  constructor
  · rintro rfl
    exact ⟨by rw [BitVec.extractLsb'_append_eq_of_le (by omega), Nat.sub_self, BitVec.extractLsb'_eq_self],
      BitVec.extractLsb'_append_eq_right⟩
  · rintro ⟨rfl, rfl⟩
    exact BitVec.extractLsb'_append_extractLsb'.symm

/-- A slice of a slice is a slice of the word. -/
theorem extractLsb'_extractLsb' {n : Nat} (x : BitVec n) {outer len' inner len : Nat} (within : inner + len ≤ len') :
    (x.extractLsb' outer len').extractLsb' inner len = x.extractLsb' (outer + inner) len := by
  apply BitVec.eq_of_getLsbD_eq
  intro i hi
  simp [hi, show inner + i < len' by omega, Nat.add_assoc]

/-- A slice of a word is 0 exactly when its bits are. -/
theorem extractLsb'_eq_zero_iff {n : Nat} (x : BitVec n) (start len : Nat) :
    x.extractLsb' start len = 0 ↔ ∀ j, start ≤ j → j < start + len → x.getLsbD j = false := by
  constructor
  · intro h j low high
    have bit : (x.extractLsb' start len).getLsbD (j - start) = false := by simp [h]
    rw [BitVec.getLsbD_extractLsb', decide_eq_true (by omega), Nat.add_sub_cancel' low] at bit
    simpa using bit
  · intro h
    apply BitVec.eq_of_getLsbD_eq
    intro i hi
    simp [hi, h (start + i) (by omega) (by omega)]

theorem extractLsb'_one_eq_ofBool_iff {n : Nat} (x : BitVec n) (j : Nat) (b : Bool) :
    x.extractLsb' j 1 = BitVec.ofBool b ↔ x.getLsbD j = b := by
  have bit : x.extractLsb' j 1 = BitVec.ofBool (x.getLsbD j) := by
    apply BitVec.eq_of_getLsbD_eq
    intro i hi
    obtain rfl : i = 0 := by omega
    simp
  rw [bit, BitVec.ofBool_eq_iff_eq]

/-! ## The fields of the four encodings -/

theorem encode_pix_eq_iff (p : Pixel) (w : CommandWord) : encode (.pix p) = .command w ↔
    w.extractLsb' 86 2 = 0b00#2 ∧ w.extractLsb' 32 54 = 0#54 ∧ w.extractLsb' 0 32 = p.pack := by
  rw [encode, Fetched.command.injEq, eq_comm (b := w), eq_append_iff (m := 56) (n := 32),
    eq_append_iff (m := 2) (n := 54)]
  simp (disch := omega) only [extractLsb'_extractLsb', Nat.reduceAdd, and_assoc]

theorem encode_finish_eq_iff (w : CommandWord) : encode .finish = .command w ↔
    w.extractLsb' 86 2 = 0b01#2 ∧ w.extractLsb' 0 86 = 0#86 := by
  rw [encode, Fetched.command.injEq, eq_comm (b := w), eq_append_iff (m := 2) (n := 86)]

theorem encode_init_eq_iff (W H : BitVec 32) (C CS : Byte) (S : Bool) (w : CommandWord) :
    encode (.init W H C CS S) = .command w ↔
      w.extractLsb' 86 2 = 0b10#2 ∧ w.extractLsb' 81 5 = 0#5 ∧ w.getLsbD 80 = S ∧ w.extractLsb' 48 32 = W ∧
        w.extractLsb' 16 32 = H ∧ w.extractLsb' 8 8 = C ∧ w.extractLsb' 0 8 = CS := by
  rw [encode, Fetched.command.injEq, eq_comm (b := w), eq_append_iff (m := 80) (n := 8),
    eq_append_iff (m := 72) (n := 8), eq_append_iff (m := 40) (n := 32), eq_append_iff (m := 8) (n := 32),
    eq_append_iff (m := 7) (n := 1), eq_append_iff (m := 2) (n := 5)]
  simp (disch := omega) only [extractLsb'_extractLsb', Nat.reduceAdd, extractLsb'_one_eq_ofBool_iff, and_assoc]

theorem encode_illegal_eq_iff (w : CommandWord) : encode .illegal = .command w ↔
    w.extractLsb' 86 2 = 0b11#2 ∧ w.extractLsb' 0 86 = 0#86 := by
  rw [encode, Fetched.command.injEq, eq_comm (b := w), eq_append_iff (m := 2) (n := 86)]

/-! ## A word decodes exactly to the instruction it encodes -/

/-- The reserved bits of a word are one slice. -/
theorem reservedClear_iff_slice {w : CommandWord} {low len : Nat} (lowest : reservedFrom (commandOp w) = low)
    (upTo : low + len = 86) : ReservedClear w ↔ w.extractLsb' low len = 0#len := by
  rw [← BitVec.ofNat_eq_ofNat, extractLsb'_eq_zero_iff, upTo]
  simp only [ReservedClear, reservedAt_iff, lowest, and_imp]

@[simp] theorem pack_unpack (v : BitVec 32) : (Pixel.unpack v).pack = v := by
  symm
  rw [Pixel.pack, eq_append_iff (m := 24) (n := 8), eq_append_iff (m := 16) (n := 8), eq_append_iff (m := 8) (n := 8)]
  simp (disch := omega) only [extractLsb'_extractLsb', Nat.reduceAdd]
  exact ⟨⟨⟨rfl, rfl⟩, rfl⟩, rfl⟩

/-- The operands of a word, encoded, give the word back when no reserved bit of it is set. -/
theorem encode_commandOperands_eq_iff (w : CommandWord) :
    encode (commandOperands w) = .command w ↔ ReservedClear w := by
  obtain ⟨field, op⟩ | ⟨field, op⟩ | ⟨field, op⟩ | ⟨field, op⟩ := commandOp_cases w
  · rw [reservedClear_iff_slice (low := 32) (len := 54) (by rw [op]; rfl) rfl]
    simp [commandOperands, op, field, encode_pix_eq_iff]
  · rw [reservedClear_iff_slice (low := 0) (len := 86) (by rw [op]; rfl) rfl]
    simp [commandOperands, op, field, encode_finish_eq_iff]
  · rw [reservedClear_iff_slice (low := 81) (len := 5) (by rw [op]; rfl) rfl]
    simp [commandOperands, op, field, encode_init_eq_iff]
  · rw [reservedClear_iff_slice (low := 0) (len := 86) (by rw [op]; rfl) rfl]
    simp [commandOperands, op, field, encode_illegal_eq_iff]

/-- The operands of an encoding are the instruction's own. -/
theorem commandOperands_of_encode {i : Instr} {w : CommandWord} (enc : encode i = .command w) :
    commandOperands w = i := by
  cases i with
  | init W H C CS S =>
    obtain ⟨field, -, rfl, rfl, rfl, rfl, rfl⟩ := (encode_init_eq_iff ..).1 enc
    simp [commandOperands, commandOp, field]
  | pix p =>
    obtain ⟨field, -, packed⟩ := (encode_pix_eq_iff ..).1 enc
    simp [commandOperands, commandOp, field, packed]
  | finish =>
    obtain ⟨field, -⟩ := (encode_finish_eq_iff w).1 enc
    simp [commandOperands, commandOp, field]
  | illegal =>
    obtain ⟨field, -⟩ := (encode_illegal_eq_iff w).1 enc
    simp [commandOperands, commandOp, field]
  | index _ | diff _ _ _ | luma _ _ _ | run _ | rgb _ _ _ | rgba _ => cases enc

/-- A word decodes exactly to the instruction whose encoding it is (30_encoding.md R80 to R85). -/
theorem decodeCommand_eq_ok_iff (w : CommandWord) (i : Instr) :
    decodeCommand w = .ok i ↔ encode i = .command w := by
  constructor
  · intro dec
    have clear : ReservedClear w := by
      by_contra reserved
      rw [(decodeCommand_eq_reservedBits_iff w).2 reserved] at dec
      cases dec
    obtain rfl : commandOperands w = i := by simpa [decodeCommand_of_reservedClear clear] using dec
    exact (encode_commandOperands_eq_iff w).2 clear
  · intro enc
    have operands := commandOperands_of_encode enc
    rw [← operands] at enc ⊢
    exact decodeCommand_of_reservedClear ((encode_commandOperands_eq_iff w).1 enc)

/-! ## The op field and the operands -/

theorem topByte_of_encode_pix {p : Pixel} {w : CommandWord} (enc : encode (.pix p) = .command w) :
    w.extractLsb' 80 8 = 0x00#8 := by
  obtain rfl := Fetched.command.inj enc
  rw [BitVec.extractLsb'_append_eq_of_le (by decide)]
  rfl

theorem topByte_of_encode_init {W H : BitVec 32} {C CS : Byte} {S : Bool} {w : CommandWord}
    (enc : encode (.init W H C CS S) = .command w) : w.extractLsb' 80 8 = if S then 0x81#8 else 0x80#8 := by
  obtain rfl := Fetched.command.inj enc
  rw [BitVec.extractLsb'_append_eq_of_le (by decide), BitVec.extractLsb'_append_eq_of_le (by decide),
    BitVec.extractLsb'_append_eq_of_le (by decide), BitVec.extractLsb'_append_eq_of_le (by decide)]
  cases S <;> rfl

/-- Settles O5: a word that decodes is its instruction's encoding, whose op field and top byte are known. -/
theorem opFieldSelectsTheCommand : Obligations.OpFieldSelectsTheCommand := by
  intro w i dec
  have enc := (decodeCommand_eq_ok_iff w i).1 dec
  cases i with
  | init W H C CS S =>
    obtain ⟨field, -⟩ := (encode_init_eq_iff ..).1 enc
    simp [field, topByte_of_encode_init enc]
  | pix p =>
    obtain ⟨field, -⟩ := (encode_pix_eq_iff ..).1 enc
    simp [field, topByte_of_encode_pix enc]
  | finish =>
    obtain rfl := Fetched.command.inj enc
    simp
  | illegal =>
    obtain rfl := Fetched.command.inj enc
    simp
  | index _ | diff _ _ _ | luma _ _ _ | run _ | rgb _ _ _ | rgba _ => cases enc

/-- Settles O6: the operands are the slices of the word that is the instruction's encoding. -/
theorem operandsAssembledFromTheirFields : Obligations.OperandsAssembledFromTheirFields := by
  refine ⟨fun w p dec => ?_, rfl, fun w W H C CS S dec => ?_, rfl, fun w => ?_⟩
  · obtain ⟨-, clear, packed⟩ := (encode_pix_eq_iff p w).1 ((decodeCommand_eq_ok_iff w _).1 dec)
    have pixel : p = Pixel.unpack (w.extractLsb' 0 32) := by rw [packed, unpack_pack]
    have reserved : w.extractLsb' 32 49 = (w.extractLsb' 32 54).extractLsb' 0 49 := by
      rw [extractLsb'_extractLsb' w (by decide)]
    rw [reserved, clear, pixel]
    simp (disch := omega) only [Pixel.unpack, extractLsb'_extractLsb', Nat.reduceAdd]
    simp
  · obtain ⟨-, -, S', W', H', C', CS'⟩ := (encode_init_eq_iff W H C CS S w).1 ((decodeCommand_eq_ok_iff w _).1 dec)
    exact ⟨S'.symm, W'.symm, H'.symm, C'.symm, CS'.symm⟩
  · rw [decodeCommand_eq_ok_iff, encode, Fetched.command.injEq, eq_comm]
    rfl

end Sys2Proof
end

section
/-! PROOFS. The decoder and the encoder of chunks (30_encoding.md R86 to R95): what decodes at the head of a byte
stream is exactly the encoding of a well-formed chunk. With the command words this is the round trip in both
directions. -/

namespace Sys2Proof

/-! ## The fields of the chunks' bytes -/

theorem eq_indexByte_iff (b : Byte) (i : Slot) :
    b = indexByte i ↔ b.extractLsb' 6 2 = 0b00#2 ∧ b.extractLsb' 0 6 = i := eq_append_iff (m := 2) (n := 6)

theorem eq_runByte_iff (b : Byte) (n : BitVec 6) :
    b = runByte n ↔ b.extractLsb' 6 2 = 0b11#2 ∧ b.extractLsb' 0 6 + 1 = n := by
  have payload : b.extractLsb' 0 6 = n - 1 ↔ b.extractLsb' 0 6 + 1 = n := by
    rw [eq_comm, sub_eq_iff_eq_add, eq_comm]
  rw [runByte, eq_append_iff (m := 2) (n := 6), payload]

/-- A field holds the number `v + bias`, biased into its range, exactly when `v` is the field's number less the bias. -/
theorem eq_ofInt_add_iff {n : Nat} {x : BitVec n} {v bias : Int} (low : -bias ≤ v) (high : v + bias < (2 ^ n : Nat)) :
    x = BitVec.ofInt n (v + bias) ↔ (x.toNat : Int) - bias = v := by
  have fits := toNat_ofInt_of_fits (n := n) (v := v + bias) (by omega) high
  rw [← BitVec.toNat_inj]
  omega

theorem eq_diffByte_iff {dr dg db : Int} (wf : WellFormed (.diff dr dg db)) (b : Byte) : b = diffByte dr dg db ↔
    b.extractLsb' 6 2 = 0b01#2 ∧ ((b.extractLsb' 4 2).toNat : Int) - 2 = dr ∧
      ((b.extractLsb' 2 2).toNat : Int) - 2 = dg ∧ ((b.extractLsb' 0 2).toNat : Int) - 2 = db := by
  obtain ⟨⟨hr, hr'⟩, ⟨hg, hg'⟩, hb, hb'⟩ := (wellFormed_diff_iff dr dg db).1 wf
  rw [diffByte, eq_append_iff (m := 6) (n := 2), eq_append_iff (m := 4) (n := 2), eq_append_iff (m := 2) (n := 2),
    eq_ofInt_add_iff (by omega) (by omega), eq_ofInt_add_iff (by omega) (by omega),
    eq_ofInt_add_iff (by omega) (by omega)]
  simp (disch := omega) only [extractLsb'_extractLsb', Nat.reduceAdd, and_assoc]

theorem eq_lumaByte0_iff {dg : Int} (low : -32 ≤ dg) (high : dg ≤ 31) (b : Byte) : b = lumaByte0 dg ↔
    b.extractLsb' 6 2 = 0b10#2 ∧ ((b.extractLsb' 0 6).toNat : Int) - 32 = dg := by
  rw [lumaByte0, eq_append_iff (m := 2) (n := 6), eq_ofInt_add_iff (by omega) (by omega)]

theorem eq_lumaByte1_iff {drg dbg : Int} (hr : -8 ≤ drg ∧ drg ≤ 7) (hb : -8 ≤ dbg ∧ dbg ≤ 7) (b : Byte) :
    b = lumaByte1 drg dbg ↔
      ((b.extractLsb' 4 4).toNat : Int) - 8 = drg ∧ ((b.extractLsb' 0 4).toNat : Int) - 8 = dbg := by
  rw [lumaByte1, eq_append_iff (m := 4) (n := 4), eq_ofInt_add_iff (by omega) (by omega),
    eq_ofInt_add_iff (by omega) (by omega)]

/-! ## A chunk at the head of a stream -/

/-- The two full-byte tags have the top bits of RUN (30_encoding.md R86). -/
theorem ne_tags_of_top_ne {b : Byte} (top : b.extractLsb' 6 2 ≠ 0b11#2) : b ≠ 0xFE#8 ∧ b ≠ 0xFF#8 :=
  ⟨fun h => top (by rw [h]; rfl), fun h => top (by rw [h]; rfl)⟩

/-- RUN has the bytes of its quarter but the two full-byte tags (30_encoding.md R90). -/
theorem wellFormed_run_iff_runByte_ne (n : BitVec 6) :
    WellFormed (.run n) ↔ runByte n ≠ 0xFE#8 ∧ runByte n ≠ 0xFF#8 := by
  revert n
  decide

/-- The encoding of a well-formed chunk is found at the head of any stream. -/
theorem decodeChunk_encode_append {i : Instr} {own : List Byte} (wf : WellFormed i) (enc : encode i = .chunk own)
    (rest : List Byte) : decodeChunk (own ++ rest) = .ok (i, rest) := by
  cases i with
  | index k =>
    obtain rfl := Fetched.chunk.inj enc
    obtain ⟨top, slot⟩ := (eq_indexByte_iff _ k).1 rfl
    obtain ⟨notRgb, notRgba⟩ := ne_tags_of_top_ne (top.trans_ne (by decide))
    simp [decodeChunk, notRgb, notRgba, top, slot]
  | diff dr dg db =>
    obtain rfl := Fetched.chunk.inj enc
    obtain ⟨top, red, green, blue⟩ := (eq_diffByte_iff wf _).1 rfl
    obtain ⟨notRgb, notRgba⟩ := ne_tags_of_top_ne (top.trans_ne (by decide))
    simp [decodeChunk, notRgb, notRgba, top, red, green, blue, -BitVec.extractLsb'_toNat]
  | luma dg drg dbg =>
    obtain rfl := Fetched.chunk.inj enc
    obtain ⟨⟨hg, hg'⟩, hr, hb⟩ := (wellFormed_luma_iff dg drg dbg).1 wf
    obtain ⟨top, green⟩ := (eq_lumaByte0_iff hg hg' _).1 rfl
    obtain ⟨red, blue⟩ := (eq_lumaByte1_iff hr hb _).1 rfl
    obtain ⟨notRgb, notRgba⟩ := ne_tags_of_top_ne (top.trans_ne (by decide))
    simp [decodeChunk, notRgb, notRgba, top, red, green, blue, -BitVec.extractLsb'_toNat]
  | run n =>
    obtain rfl := Fetched.chunk.inj enc
    obtain ⟨top, length⟩ := (eq_runByte_iff _ n).1 rfl
    obtain ⟨notRgb, notRgba⟩ := (wellFormed_run_iff_runByte_ne n).1 wf
    simpa [decodeChunk, notRgb, notRgba, top] using length
  | rgb r g b => obtain rfl := Fetched.chunk.inj enc; rfl
  | rgba p => obtain rfl := Fetched.chunk.inj enc; rfl
  | init _ _ _ _ _ | pix _ | finish | illegal => cases enc

theorem wellFormed_diff_of_fields (red green blue : BitVec 2) :
    WellFormed (.diff (red.toNat - 2) (green.toNat - 2) (blue.toNat - 2)) := by
  rw [wellFormed_diff_iff]
  omega

theorem wellFormed_luma_of_fields (green : BitVec 6) (red blue : BitVec 4) :
    WellFormed (.luma (green.toNat - 32) (red.toNat - 8) (blue.toNat - 8)) := by
  rw [wellFormed_luma_iff]
  omega

/-- What decodes at the head of a stream is the encoding of a well-formed chunk, and the rest follows it. -/
theorem encode_of_decodeChunk {bytes rest : List Byte} {i : Instr} (dec : decodeChunk bytes = .ok (i, rest)) :
    ∃ own, WellFormed i ∧ encode i = .chunk own ∧ bytes = own ++ rest := by
  unfold decodeChunk at dec
  split at dec
  case h_1 => cases dec
  case h_2 b0 _ =>
  split at dec
  case isTrue tag =>
    split at dec
    · cases dec
      exact ⟨_, rfl, rfl, by rw [tag]; rfl⟩
    · cases dec
  case isFalse notRgb =>
  split at dec
  case isTrue tag =>
    split at dec
    · cases dec
      exact ⟨_, rfl, rfl, by rw [tag]; rfl⟩
    · cases dec
  case isFalse notRgba =>
  split at dec
  case isTrue top =>
    cases dec
    exact ⟨_, rfl, rfl, congrArg (· :: rest) ((eq_indexByte_iff b0 _).2 ⟨top, rfl⟩)⟩
  case isFalse notIndex =>
  split at dec
  case isTrue top =>
    cases dec
    have wf := wellFormed_diff_of_fields (b0.extractLsb' 4 2) (b0.extractLsb' 2 2) (b0.extractLsb' 0 2)
    exact ⟨_, wf, rfl, congrArg (· :: rest) ((eq_diffByte_iff wf b0).2 ⟨top, rfl, rfl, rfl⟩)⟩
  case isFalse notDiff =>
  split at dec
  case isTrue top =>
    split at dec
    case h_1 b1 _ =>
      cases dec
      have wf := wellFormed_luma_of_fields (b0.extractLsb' 0 6) (b1.extractLsb' 4 4) (b1.extractLsb' 0 4)
      obtain ⟨⟨hg, hg'⟩, hr, hb⟩ := (wellFormed_luma_iff _ _ _).1 wf
      have byte0 := (eq_lumaByte0_iff hg hg' b0).2 ⟨top, rfl⟩
      have byte1 := (eq_lumaByte1_iff hr hb b1).2 ⟨rfl, rfl⟩
      exact ⟨_, wf, rfl, congrArg₂ (· :: · :: rest) byte0 byte1⟩
    case h_2 => cases dec
  case isFalse notLuma =>
    cases dec
    have fourth : ∀ t : BitVec 2, t ≠ 0b00#2 → t ≠ 0b01#2 → t ≠ 0b10#2 → t = 0b11#2 := by decide
    have top := fourth _ notIndex notDiff notLuma
    have byte := (eq_runByte_iff b0 _).2 ⟨top, rfl⟩
    have wf := (wellFormed_run_iff_runByte_ne (b0.extractLsb' 0 6 + 1)).2 ⟨byte ▸ notRgb, byte ▸ notRgba⟩
    exact ⟨_, wf, rfl, congrArg (· :: rest) byte⟩

/-! ## The round trip -/

theorem decodeWholeChunk_eq_ok_iff (bytes : List Byte) (i : Instr) :
    decodeWholeChunk bytes = .ok i ↔ decodeChunk bytes = .ok (i, []) := by
  unfold decodeWholeChunk
  split
  case h_1 dec => simp [dec]
  case h_2 dec => simp [dec]
  case h_3 dec => simp [dec]

/-- A form decodes exactly to the well-formed instruction whose encoding it is (30_encoding.md sections 1 and 2). -/
theorem decode_eq_ok_iff (f : Fetched) (i : Instr) : decode f = .ok i ↔ WellFormed i ∧ encode i = f := by
  cases f with
  | command w =>
    have wf (enc : encode i = .command w) : WellFormed i := by
      cases i with
      | init _ _ _ _ _ | pix _ | finish | illegal => rfl
      | index _ | diff _ _ _ | luma _ _ _ | run _ | rgb _ _ _ | rgba _ => cases enc
    rw [decode, decodeCommand_eq_ok_iff]
    exact ⟨fun enc => ⟨wf enc, enc⟩, fun ⟨_, enc⟩ => enc⟩
  | chunk bytes =>
    rw [decode, decodeWholeChunk_eq_ok_iff]
    constructor
    · intro dec
      obtain ⟨own, wf, enc, split⟩ := encode_of_decodeChunk dec
      rw [split, List.append_nil]
      exact ⟨wf, enc⟩
    · rintro ⟨wf, enc⟩
      simpa using decodeChunk_encode_append wf enc []

/-- Settles O1: the encoding of an instruction is a form that decodes to it. -/
theorem decodeOfEncodeIsTheInstruction : Obligations.DecodeOfEncodeIsTheInstruction :=
  fun i wf => (decode_eq_ok_iff (encode i) i).2 ⟨wf, rfl⟩

/-- Settles O2: a form decodes only to the instruction it is the encoding of. -/
theorem encodeOfDecodeIsTheForm : Obligations.EncodeOfDecodeIsTheForm :=
  fun f i => (decode_eq_ok_iff f i).1

/-! ## The first byte -/

theorem chunkLength_of_top_ne {b : Byte} (top : b.extractLsb' 6 2 ≠ 0b11#2) :
    chunkLength b = if b.extractLsb' 6 2 = 0b10#2 then 2 else 1 := by
  obtain ⟨notRgb, notRgba⟩ := ne_tags_of_top_ne top
  rw [chunkLength, if_neg notRgba, if_neg notRgb]

/-- The first byte of a chunk alone says its length (30_encoding.md R94). -/
theorem length_eq_chunkLength {i : Instr} {b0 : Byte} {tl : List Byte} (wf : WellFormed i)
    (enc : encode i = .chunk (b0 :: tl)) : tl.length + 1 = chunkLength b0 := by
  cases i with
  | index k =>
    obtain ⟨rfl, rfl⟩ := List.cons.inj (Fetched.chunk.inj enc)
    obtain ⟨top, -⟩ := (eq_indexByte_iff _ k).1 rfl
    simp [chunkLength_of_top_ne, top]
  | diff dr dg db =>
    obtain ⟨rfl, rfl⟩ := List.cons.inj (Fetched.chunk.inj enc)
    obtain ⟨top, -⟩ := (eq_diffByte_iff wf _).1 rfl
    simp [chunkLength_of_top_ne, top]
  | luma dg drg dbg =>
    obtain ⟨rfl, rfl⟩ := List.cons.inj (Fetched.chunk.inj enc)
    obtain ⟨⟨hg, hg'⟩, -⟩ := (wellFormed_luma_iff dg drg dbg).1 wf
    obtain ⟨top, -⟩ := (eq_lumaByte0_iff hg hg' _).1 rfl
    simp [chunkLength_of_top_ne, top]
  | run n =>
    obtain ⟨rfl, rfl⟩ := List.cons.inj (Fetched.chunk.inj enc)
    obtain ⟨top, -⟩ := (eq_runByte_iff _ n).1 rfl
    obtain ⟨notRgb, notRgba⟩ := (wellFormed_run_iff_runByte_ne n).1 wf
    simp [chunkLength, notRgb, notRgba, top]
  | rgb r g b =>
    obtain ⟨rfl, rfl⟩ := List.cons.inj (Fetched.chunk.inj enc)
    rfl
  | rgba p =>
    obtain ⟨rfl, rfl⟩ := List.cons.inj (Fetched.chunk.inj enc)
    rfl
  | init _ _ _ _ _ | pix _ | finish | illegal => cases enc

/-- Settles O3: the chunk at the head of a stream is an encoding, of the length its first byte says. -/
theorem chunkSplitsOffByItsFirstByte : Obligations.ChunkSplitsOffByItsFirstByte := by
  refine ⟨fun i own rest wf enc => decodeChunk_encode_append wf enc rest, fun b0 tl rest i dec => ?_⟩
  obtain ⟨own, wf, enc, split⟩ := encode_of_decodeChunk dec
  cases own with
  | nil => cases i <;> cases enc
  | cons b own =>
    obtain ⟨rfl, rfl⟩ := List.cons.inj split
    exact ⟨own.length, length_eq_chunkLength wf enc, by simp, by simp⟩

/-- Settles O4: the ranges of the first byte exclude each other, and each kind has its own. -/
theorem firstBytesOfChunksPartition : Obligations.FirstBytesOfChunksPartition := by
  intro i b0 tl wf enc
  have ranges := firstByte_ranges i b0 tl wf enc
  simp only [← BitVec.toNat_inj]
  cases i with
  | index _ | diff _ _ _ | luma _ _ _ | run _ =>
    simp at ranges ⊢
    omega
  | rgb _ _ _ | rgba _ =>
    obtain ⟨rfl, -⟩ := List.cons.inj (Fetched.chunk.inj enc)
    simp
  | init _ _ _ _ _ | pix _ | finish | illegal => cases enc

/-! ## Words of the opcode table -/

/-- Settles O9: each word is decoded as the table numbers it. -/
theorem tableWordsDecodeToTheirInstructions : Obligations.TableWordsDecodeToTheirInstructions := by
  unfold Obligations.TableWordsDecodeToTheirInstructions
  decide

end Sys2Proof
end

section
/-! PROOFS. The rest of the pixel model (40_pixel_model.md R112, R116 to R118): the hash in narrower arithmetic, the
condition of LUMA with wrapped cross deltas, and the biases. -/

namespace Sys2Proof.Machine

/-! ## The hash in narrower arithmetic -/

/-- The sum may be reduced modulo any 2^w first, since 64 divides it (R112). -/
theorem hash_toNat_of_width (p : Pixel) {w : Nat} (wide : 6 ≤ w) : (hash p).toNat = hashSum p % 2 ^ w % 64 := by
  rw [hash_toNat, Nat.mod_mod_of_dvd (hashSum p) (Nat.pow_dvd_pow 2 wide)]

/-- The products may be wrapped to 8 bits before they are summed (R112). -/
theorem hash_toNat_of_wrapped_products (p : Pixel) :
    (hash p).toNat = ((3 * p.R).toNat + (5 * p.G).toNat + (7 * p.B).toNat + (11 * p.A).toNat) % 64 := by
  rw [hash_toNat, hashSum]
  simp only [BitVec.toNat_mul, BitVec.ofNat_eq_ofNat, BitVec.toNat_ofNat]
  omega

/-- Only the low 6 bits of each channel count (R112). -/
theorem hash_eq_sum_of_low_bits (p : Pixel) :
    hash p =
      3 * p.R.extractLsb' 0 6 + 5 * p.G.extractLsb' 0 6 + 7 * p.B.extractLsb' 0 6 + 11 * p.A.extractLsb' 0 6 := by
  apply BitVec.eq_of_toNat_eq
  rw [hash_toNat, hashSum]
  simp only [BitVec.toNat_add, BitVec.toNat_mul, BitVec.ofNat_eq_ofNat, BitVec.toNat_ofNat, BitVec.extractLsb'_toNat,
    Nat.shiftRight_zero]
  omega

/-- Settles O12: the three ways to compute the hash. -/
theorem hashDoesNotDependOnIntermediateWidth : Obligations.HashDoesNotDependOnIntermediateWidth :=
  fun p => ⟨fun _ wide => hash_toNat_of_width p wide, hash_toNat_of_wrapped_products p, hash_eq_sum_of_low_bits p⟩

/-! ## The condition of LUMA -/

/-- With the green delta in LUMA's range a cross delta is at most 159 away from 0, so wrapping it to 8 bits brings no
value into [-8, 7] that was not there (R116). -/
theorem inRange_wrapped_cross {x dg : Int} (byte : -128 ≤ x ∧ x ≤ 127) (green : -32 ≤ dg ∧ dg ≤ 31) :
    inRange (-8) (s8 (u8 (x - dg))) 7 = inRange (-8) (x - dg) 7 := by
  rw [Bool.eq_iff_iff, inRange_iff, inRange_iff, s8, u8]
  split <;> omega

theorem lumaOk_diff_eq_wrapped (p l : Pixel) : lumaOk (diff p l) =
    (decide ((diff p l).da = 0) && inRange (-32) (diff p l).dg 31 &&
      inRange (-8) (s8 (u8 ((diff p l).dr - (diff p l).dg))) 7 &&
      inRange (-8) (s8 (u8 ((diff p l).db - (diff p l).dg))) 7) := by
  cases green : inRange (-32) (diff p l).dg 31 with
  | false => simp [lumaOk, green]
  | true =>
    have bounds := (inRange_iff ..).1 green
    have red : -128 ≤ (diff p l).dr ∧ (diff p l).dr ≤ 127 := ⟨neg_128_le_d8 .., d8_le_127 ..⟩
    have blue : -128 ≤ (diff p l).db ∧ (diff p l).db ≤ 127 := ⟨neg_128_le_d8 .., d8_le_127 ..⟩
    rw [inRange_wrapped_cross red bounds, inRange_wrapped_cross blue bounds, lumaOk, green]

/-- Every small delta meets the condition of LUMA (R117). -/
theorem lumaOk_of_diffOk (d : Delta) (small : diffOk d = true) : lumaOk d = true := by
  rw [diffOk_iff] at small
  rw [lumaOk_iff]
  omega

/-- Settles O16: the condition, its insensitivity to a second wrap, and that small deltas meet it. -/
theorem lumaDeltaRange : Obligations.LumaDeltaRange :=
  ⟨lumaOk_iff, by decide, by decide, lumaOk_diff_eq_wrapped, lumaOk_of_diffOk⟩

/-! ## The biases -/

/-- Settles O17: each bias is an addition (R118). -/
theorem biasedDeltasFitTheirFields : Obligations.BiasedDeltasFitTheirFields := by
  refine ⟨fun x low high => ?_, fun x low high => ?_, fun x low high => ?_, by decide⟩
  · rw [bias2]; omega
  · rw [bias32]; omega
  · rw [bias8]; omega

end Sys2Proof.Machine
end

section
/-! PROOFS. The chunks that an instruction emits, named as chunk instructions: the chunk writer appends a chunk's
encoding (42_chunk_writer.md R160 to R166, 30_encoding.md R93) and writes nothing but the output and the counters. -/

namespace Sys2Proof.Machine

open Sys2Proof.Safety

/-! ## One chunk -/

/-- The chunk writer's operation for the chunk `c` (R161 to R166); a command is no chunk and emits nothing by itself. -/
def State.emit (c : Instr) (s : State) : State :=
  match c with
  | .index i => s.emitIndex i
  | .diff dr dg db => s.emitDiff dr dg db
  | .luma dg drg dbg => s.emitLuma dg drg dbg
  | .run n => s.emitRun n
  | .rgb r g b => s.emitRgb r g b
  | .rgba p => s.emitRgba p
  | .init .. | .pix _ | .finish | .illegal => s

/-- The bytes of a chunk; a command has none. -/
def chunkBytes (c : Instr) : List Byte :=
  match encode c with
  | .chunk bytes => bytes
  | .command _ => []

/-- How many pixels a chunk represents (42_chunk_writer.md R160); a command represents none. -/
def chunkPixels : Instr → Nat
  | .run n => n.toNat
  | .index _ | .diff .. | .luma .. | .rgb .. | .rgba _ => 1
  | .init .. | .pix _ | .finish | .illegal => 0

theorem encode_eq_chunkBytes {c : Instr} (chunk : c.isCommand = false) : encode c = .chunk (chunkBytes c) := by
  cases c with
  | init _ _ _ _ _ | pix _ | finish | illegal => cases chunk
  | index _ | diff _ _ _ | luma _ _ _ | run _ | rgb _ _ _ | rgba _ => rfl

/-- A chunk row means the chunk writer's operation. -/
theorem exec_eq_emit {c : Instr} (chunk : c.isCommand = false) (s : State) : exec c s = .next (s.emit c) := by
  cases c with
  | init _ _ _ _ _ | pix _ | finish | illegal => cases chunk
  | index _ | diff _ _ _ | luma _ _ _ | run _ | rgb _ _ _ | rgba _ => rfl

theorem emit_of_isCommand {c : Instr} (command : c.isCommand = true) (s : State) : s.emit c = s := by
  cases c with
  | init _ _ _ _ _ | pix _ | finish | illegal => rfl
  | index _ | diff _ _ _ | luma _ _ _ | run _ | rgb _ _ _ | rgba _ => cases command

/-- Emitting a chunk is `EmitChunk` with its kind, as many bytes as the kind has, and its number of pixels; the bytes
of a well-formed chunk are its encoding. -/
theorem emit_eq_emitChunk {c : Instr} (chunk : c.isCommand = false) :
    ∃ k bytes, 8 * bytes.length = kindBits k.num ∧ (WellFormed c → bytes = chunkBytes c) ∧
      ∀ s : State, s.emit c = s.emitChunk k bytes (chunkPixels c) := by
  cases c with
  | init _ _ _ _ _ | pix _ | finish | illegal => cases chunk
  | index i => exact ⟨.index, [indexByte i], rfl, fun _ => rfl, emitIndex_eq i⟩
  | diff dr dg db =>
    by_cases wf : WellFormed (.diff dr dg db)
    · exact ⟨.diff, [diffByte dr dg db], rfl, fun _ => rfl, emitDiff_eq wf⟩
    · exact ⟨.diff, [_], rfl, fun h => absurd h wf, fun _ => rfl⟩
  | luma dg drg dbg =>
    by_cases wf : WellFormed (.luma dg drg dbg)
    · exact ⟨.luma, [lumaByte0 dg, lumaByte1 drg dbg], rfl, fun _ => rfl, emitLuma_eq wf⟩
    · exact ⟨.luma, [_, _], rfl, fun h => absurd h wf, fun _ => rfl⟩
  | run n =>
    by_cases wf : WellFormed (.run n)
    · exact ⟨.run, [runByte n], rfl, fun _ => rfl, emitRun_eq (ne_zero_of_wellFormed_run wf)⟩
    · exact ⟨.run, [_], rfl, fun h => absurd h wf, fun _ => rfl⟩
  | rgb r g b => exact ⟨.rgb, [0xFE, r, g, b], rfl, fun _ => rfl, fun _ => rfl⟩
  | rgba p => exact ⟨.rgba, [0xFF, p.R, p.G, p.B, p.A], rfl, fun _ => rfl, fun _ => rfl⟩

theorem emit_pending {c : Instr} (wf : WellFormed c) (s : State) :
    (s.emit c).pending = s.pending ++ chunkBytes c := by
  cases command : c.isCommand with
  | true =>
    rw [emit_of_isCommand command]
    cases c with
    | init _ _ _ _ _ | pix _ | finish | illegal => exact (List.append_nil _).symm
    | index _ | diff _ _ _ | luma _ _ _ | run _ | rgb _ _ _ | rgba _ => cases command
  | false =>
    obtain ⟨k, bytes, -, encoding, emit⟩ := emit_eq_emitChunk command
    rw [emit, State.emitChunk_pending, encoding wf]

/-- Settles O21: the chunk writer appends the chunk's bytes, whose number is that of R93's table. -/
theorem emittedBytesAreTheEncoding : Obligations.EmittedBytesAreTheEncoding := by
  intro c s chunk wf
  refine ⟨s.emit c, chunkBytes c, exec_eq_emit chunk s, encode_eq_chunkBytes chunk, emit_pending wf s, ?_⟩
  cases c with
  | init _ _ _ _ _ | pix _ | finish | illegal => cases chunk
  | index _ | diff _ _ _ | luma _ _ _ | run _ | rgb _ _ _ | rgba _ => rfl

/-! ## Nothing but the output and the counters is written -/

/-- From `s` to `t` only the waiting output and the counters were written. -/
def OnlyOutputWritten (s t : State) : Prop :=
  t = { s with
    pending := t.pending, statBits := t.statBits, statPixels := t.statPixels, statKpix := t.statKpix,
    statKbits := t.statKbits }

theorem OnlyOutputWritten.trans {s t u : State} (hst : OnlyOutputWritten s t) (htu : OnlyOutputWritten t u) :
    OnlyOutputWritten s u :=
  Eq.trans htu (by rw [hst])

theorem emit_onlyOutput (c : Instr) (s : State) : OnlyOutputWritten s (s.emit c) := by
  cases command : c.isCommand with
  | true => rw [emit_of_isCommand command]; rfl
  | false =>
    obtain ⟨k, bytes, -, -, emit⟩ := emit_eq_emitChunk command
    rw [emit]
    exact (emitChunk_written k bytes _ s).rest_unchanged

theorem CommutesWithEmission.emit {f : State → State} (hf : CommutesWithEmission f) (c : Instr) (s : State) :
    (f s).emit c = f (s.emit c) := by
  cases command : c.isCommand with
  | true => rw [emit_of_isCommand command, emit_of_isCommand command]
  | false =>
    obtain ⟨k, bytes, -, -, emit⟩ := emit_eq_emitChunk command
    rw [emit, emit, hf]

/-! ## Several chunks -/

/-- The chunks `cs` emitted one after the other. -/
def State.emitAll (cs : List Instr) (s : State) : State := cs.foldl (fun s c => s.emit c) s

@[simp] theorem emitAll_nil (s : State) : s.emitAll [] = s := rfl

@[simp] theorem emitAll_cons (c : Instr) (cs : List Instr) (s : State) :
    s.emitAll (c :: cs) = (s.emit c).emitAll cs := rfl

theorem emitAll_append (cs ds : List Instr) (s : State) : s.emitAll (cs ++ ds) = (s.emitAll cs).emitAll ds :=
  List.foldl_append

theorem emitAll_onlyOutput (cs : List Instr) (s : State) : OnlyOutputWritten s (s.emitAll cs) := by
  induction cs generalizing s with
  | nil => rfl
  | cons c cs ih => exact (emit_onlyOutput c s).trans (ih _)

theorem CommutesWithEmission.emitAll {f : State → State} (hf : CommutesWithEmission f) (cs : List Instr) (s : State) :
    (f s).emitAll cs = f (s.emitAll cs) := by
  induction cs generalizing s with
  | nil => rfl
  | cons c cs ih => rw [emitAll_cons, emitAll_cons, hf.emit, ih]

/-- Every instruction of the list has an encoding. -/
def AllWellFormed (cs : List Instr) : Prop := ∀ c ∈ cs, WellFormed c

theorem emitAll_pending {cs : List Instr} (wf : AllWellFormed cs) (s : State) :
    (s.emitAll cs).pending = s.pending ++ cs.flatMap chunkBytes := by
  induction cs generalizing s with
  | nil => simp
  | cons c cs ih =>
    obtain ⟨wf_c, wf_cs⟩ := List.forall_mem_cons.1 wf
    rw [emitAll_cons, ih wf_cs, emit_pending wf_c, List.flatMap_cons, List.append_assoc]

end Sys2Proof.Machine
end

section
/-! PROOFS. PIXEL as a function of the encoder's own state (41_engine.md R132 to R140): which chunks it emits and what
becomes of the cache, `last_px` and `run`. -/

namespace Sys2Proof.Machine

open Sys2Proof.Safety

/-! ## The encoder's own state -/

/-- What the choice of the next chunk depends on (41_engine.md R149). -/
structure Encoder where
  cache : Vector Pixel 64
  lastPx : Pixel
  run : BitVec 6

def State.encoder (s : State) : Encoder := ⟨s.cache, s.lastPx, s.run⟩

def State.setEncoder (e : Encoder) (s : State) : State := { s with cache := e.cache, lastPx := e.lastPx, run := e.run }

def Encoder.slot (e : Encoder) (i : Slot) : Pixel := e.cache[i.toNat]

@[simp] theorem encoder_setEncoder (e : Encoder) (s : State) : (s.setEncoder e).encoder = e := rfl

theorem setEncoder_commutesWithEmission (e : Encoder) : CommutesWithEmission (State.setEncoder e) :=
  fun _ _ _ _ => Eq.symm (apply_ite (State.setEncoder e) _ _ _)

theorem OnlyOutputWritten.encoder_eq {s t : State} (h : OnlyOutputWritten s t) : t.encoder = s.encoder := by
  rw [h]
  rfl

@[simp] theorem encoder_emit (c : Instr) (s : State) : (s.emit c).encoder = s.encoder :=
  (emit_onlyOutput c s).encoder_eq

@[simp] theorem encoder_emitAll (cs : List Instr) (s : State) : (s.emitAll cs).encoder = s.encoder :=
  (emitAll_onlyOutput cs s).encoder_eq

/-! ## The policy of PIXEL -/

/-- The chunk of a pending run, if there is one (R134). -/
def runChunks (n : BitVec 6) : List Instr := if n = 0 then [] else [.run n]

/-- Steps 5 to 7: the chunk of the pixel `p` after the pixel `l` (R137 to R139). -/
def deltaChunk (p l : Pixel) : Instr :=
  if diffOk (diff p l) then .diff (diff p l).dr (diff p l).dg (diff p l).db
  else if lumaOk (diff p l) then
    .luma (diff p l).dg ((diff p l).dr - (diff p l).dg) ((diff p l).db - (diff p l).dg)
  else if (diff p l).da = 0 then .rgb p.R p.G p.B
  else .rgba p

/-- Steps 3 to 7: the chunk of a pixel that differs from `last_px` (R135 to R139). -/
def Encoder.chunkOf (p : Pixel) (e : Encoder) : Instr :=
  if e.slot (hash p) = p then .index (hash p) else deltaChunk p e.lastPx

/-- All chunks that PIXEL emits (R140). -/
def Encoder.chunks (p : Pixel) (e : Encoder) : List Instr :=
  if p = e.lastPx then (if e.run + 1 = runMax then [.run runMax] else [])
  else runChunks e.run ++ [e.chunkOf p]

/-- The encoder after PIXEL. A hit finds the pixel in its slot already, so that storing it changes nothing. -/
def Encoder.next (p : Pixel) (e : Encoder) : Encoder :=
  if p = e.lastPx then { e with run := if e.run + 1 = runMax then 0 else e.run + 1 }
  else ⟨e.cache.set (hash p).toNat p, p, 0⟩

/-! ## PIXEL and FINISH follow the policy -/

theorem continueRun_eq {p : Pixel} {s : State} (same : p = s.lastPx) :
    s.continueRun = (s.emitAll (s.encoder.chunks p)).setEncoder (s.encoder.next p) := by
  have last : p = s.encoder.lastPx := same
  rw [Encoder.chunks, Encoder.next, if_pos last, if_pos last]
  by_cases full : s.encoder.run + 1 = runMax
  · rw [if_pos full, if_pos full, continueRun_of_eq full, ← encoder_emitAll [.run runMax] s]
    rfl
  · rw [if_neg full, if_neg full, continueRun_of_ne full]
    rfl

theorem flushRun_eq (s : State) :
    s.flushRun = (s.emitAll (runChunks s.run)).setEncoder { s.encoder with run := 0 } := by
  by_cases noRun : s.run = 0
  · have encoder : s.encoder = { s.encoder with run := 0 } := by rw [← noRun]; rfl
    rw [flushRun_of_zero noRun, runChunks, if_pos noRun, ← encoder]
    rfl
  · rw [flushRun_of_pending noRun, runChunks, if_neg noRun, ← encoder_emitAll [.run s.run] s]
    rfl

theorem emitDelta_eq_emit (p : Pixel) (s : State) : s.emitDelta p = s.emit (deltaChunk p s.lastPx) := by
  simp only [deltaChunk, apply_ite (State.emit · s)]
  rfl

theorem encodePixel_eq (p : Pixel) (s : State) : s.encodePixel p =
    (s.emit (s.encoder.chunkOf p)).setEncoder ⟨s.cache.set (hash p).toNat p, p, s.run⟩ := by
  by_cases hit : s.cacheAt (hash p) = p
  · have stored : s.cache.set (hash p).toNat p = s.cache := by
      ext1 i hi
      rw [Vector.getElem_set]
      split
      · subst i; exact hit.symm
      · rfl
    have chunk : s.encoder.chunkOf p = .index (hash p) := if_pos hit
    rw [encodePixel_of_hit hit, chunk, stored]
    calc (s.emitIndex (hash p)).setLastPx p
      _ = (s.emit (.index (hash p))).setEncoder { (s.emit (.index (hash p))).encoder with lastPx := p } := rfl
      _ = (s.emit (.index (hash p))).setEncoder ⟨s.cache, p, s.run⟩ := by rw [encoder_emit]; rfl
  · have chunk : s.encoder.chunkOf p = deltaChunk p s.lastPx := if_neg hit
    rw [encodePixel_of_miss hit, chunk, emitDelta_eq_emit]
    generalize deltaChunk p s.lastPx = c
    calc ((s.emit c).cacheStore (hash p) p).setLastPx p
      _ = (s.emit c).setEncoder ⟨(s.emit c).encoder.cache.set (hash p).toNat p, p, (s.emit c).encoder.run⟩ := rfl
      _ = (s.emit c).setEncoder ⟨s.cache.set (hash p).toNat p, p, s.run⟩ := by rw [encoder_emit]; rfl

/-- PIXEL in ACTIVE emits the policy's chunks, and writes the encoder's state and nothing else. -/
theorem exec_pix_active {s : State} (active : s.phase = .active) (p : Pixel) :
    exec (.pix p) s = .next ((s.emitAll (s.encoder.chunks p)).setEncoder (s.encoder.next p)) := by
  by_cases same : p = s.lastPx
  · rw [exec_pix_of_eq active same, continueRun_eq same]
  · have last : ¬ p = s.encoder.lastPx := same
    rw [exec_pix_of_ne active same, encodePixel_eq, flushRun_eq, (setEncoder_commutesWithEmission _).emit,
      Encoder.chunks, Encoder.next, if_neg last, if_neg last, emitAll_append]
    rfl

/-- FINISH in ACTIVE emits the pending run and ends the stream (R141). -/
theorem exec_finish_active_eq {s : State} (active : s.phase = .active) :
    exec .finish s =
      .next (((s.emitAll (runChunks s.run)).setEncoder { s.encoder with run := 0 }).setPhase .done) := by
  rw [exec_finish_active active, flushRun_eq]

/-! ## The chunks of the policy are well-formed -/

theorem AllWellFormed.append {cs ds : List Instr} (hc : AllWellFormed cs) (hd : AllWellFormed ds) :
    AllWellFormed (cs ++ ds) :=
  fun c hm => (List.mem_append.1 hm).elim (hc c) (hd c)

theorem allWellFormed_singleton {c : Instr} (wf : WellFormed c) : AllWellFormed [c] := List.forall_mem_singleton.2 wf

/-- The chunk of a pixel that differs from `last_px` is a chunk, not RUN, and has an encoding: DIFF and LUMA are chosen
only for deltas in their ranges. -/
theorem deltaChunk_spec (p l : Pixel) :
    (deltaChunk p l).isCommand = false ∧ (∀ n, deltaChunk p l ≠ .run n) ∧ WellFormed (deltaChunk p l) := by
  unfold deltaChunk
  split
  case isTrue small =>
    obtain ⟨-, hr, hr', hg, hg', hb, hb'⟩ := (diffOk_iff _).1 small
    exact ⟨rfl, by simp, (wellFormed_diff_iff ..).2 ⟨⟨hr, hr'⟩, ⟨hg, hg'⟩, hb, hb'⟩⟩
  case isFalse =>
    split
    case isTrue luma =>
      obtain ⟨-, hg, hg', hr, hr', hb, hb'⟩ := (lumaOk_iff _).1 luma
      exact ⟨rfl, by simp, (wellFormed_luma_iff ..).2 ⟨⟨hg, hg'⟩, ⟨hr, hr'⟩, hb, hb'⟩⟩
    case isFalse => split <;> exact ⟨rfl, by simp, rfl⟩

theorem chunkOf_spec (p : Pixel) (e : Encoder) :
    (e.chunkOf p).isCommand = false ∧ (∀ n, e.chunkOf p ≠ .run n) ∧ WellFormed (e.chunkOf p) := by
  unfold Encoder.chunkOf
  split
  · exact ⟨rfl, by simp, rfl⟩
  · exact deltaChunk_spec p e.lastPx

/-- A run that stands between two commands (10_state.md R24). -/
def Encoder.RunBounded (e : Encoder) : Prop := e.run.toNat ≤ 61

theorem runChunks_allWellFormed {n : BitVec 6} (bound : n.toNat ≤ 61) : AllWellFormed (runChunks n) := by
  unfold runChunks
  split
  · simp [AllWellFormed]
  case isFalse nonzero =>
    exact allWellFormed_singleton ((wellFormed_run_iff n).2 ⟨by bv_omega, by omega⟩)

section

variable {e : Encoder} (bounded : e.RunBounded)
include bounded

theorem chunks_allWellFormed (p : Pixel) : AllWellFormed (e.chunks p) := by
  unfold Encoder.chunks
  split
  · split
    · exact allWellFormed_singleton rfl
    · simp [AllWellFormed]
  · obtain ⟨-, -, wf⟩ := chunkOf_spec p e
    exact (runChunks_allWellFormed bounded).append (allWellFormed_singleton wf)

/-- PIXEL keeps the run in 0..61: at 62 it is emitted at once (10_state.md R24). -/
theorem next_runBounded (p : Pixel) : (e.next p).RunBounded := by
  unfold Encoder.RunBounded at bounded ⊢
  unfold Encoder.next
  split
  · dsimp only
    split <;> bv_omega
  · exact Nat.zero_le _

end

/-! ## What PIXEL emits -/

theorem chunkBytes_length_le (c : Instr) : (chunkBytes c).length ≤ 5 := by
  cases c <;> simp [chunkBytes, encode]

theorem chunkBytes_run {n : BitVec 6} (nonzero : n ≠ 0) :
    chunkBytes (.run n) = [BitVec.ofNat 8 (192 + (n.toNat - 1))] := by
  rw [← runByte_eq_ofNat nonzero]
  rfl

theorem flatMap_runChunks_append (n : BitVec 6) (bytes : List Byte) :
    (runChunks n).flatMap chunkBytes ++ bytes =
      if n = 0 then bytes else BitVec.ofNat 8 (192 + (n.toNat - 1)) :: bytes := by
  unfold runChunks
  split
  · rfl
  case isFalse nonzero => simp [chunkBytes_run nonzero]

theorem run_add_one_eq_runMax_iff (n : BitVec 6) : n + 1 = runMax ↔ n = 61 := by
  rw [← eq_sub_iff_add_eq]
  rfl

/-- The bytes of PIXEL for a pixel equal to `last_px` (R133). -/
theorem flatMap_chunks_of_eq {p : Pixel} {e : Encoder} (same : p = e.lastPx) :
    (e.chunks p).flatMap chunkBytes = if e.run = 61 then [0xFD#8] else [] := by
  rw [Encoder.chunks, if_pos same]
  simp only [run_add_one_eq_runMax_iff]
  split <;> rfl

/-- The bytes of PIXEL for a pixel that differs from `last_px` (R134 to R139). -/
theorem flatMap_chunks_of_ne {p : Pixel} {e : Encoder} (differs : p ≠ e.lastPx) :
    (e.chunks p).flatMap chunkBytes = if e.run = 0 then chunkBytes (e.chunkOf p)
      else BitVec.ofNat 8 (192 + (e.run.toNat - 1)) :: chunkBytes (e.chunkOf p) := by
  rw [Encoder.chunks, if_neg differs, List.flatMap_append, flatMap_runChunks_append, List.flatMap_singleton]

/-- Settles O35: the bytes are those of the policy's chunks. -/
theorem pixelEmitsAtMostARunAndAChunk : Obligations.PixelEmitsAtMostARunAndAChunk := by
  intro s p active bound
  have appended := emitAll_pending (chunks_allWellFormed (e := s.encoder) bound p) s
  refine ⟨_, _, exec_pix_active active p, appended, ?_, flatMap_chunks_of_eq (e := s.encoder), fun differs => ?_⟩
  · by_cases same : p = s.encoder.lastPx
    · rw [flatMap_chunks_of_eq same]
      split <;> simp
    · have own := chunkBytes_length_le (s.encoder.chunkOf p)
      rw [flatMap_chunks_of_ne same]
      split <;> simp <;> omega
  · obtain ⟨chunk, notRun, wf⟩ := chunkOf_spec p s.encoder
    exact ⟨s.encoder.chunkOf p, _, chunk, notRun, wf, encode_eq_chunkBytes chunk, flatMap_chunks_of_ne differs⟩

/-! ## The frame of PIXEL -/

@[simp] theorem cacheAt_setEncoder (e : Encoder) (s : State) (i : Slot) : (s.setEncoder e).cacheAt i = e.slot i := rfl

theorem slot_next_of_ne {p : Pixel} {e : Encoder} (differs : p ≠ e.lastPx) (i : Slot) :
    (e.next p).slot i = if i = hash p then p else e.slot i := by
  rw [Encoder.next, if_neg differs]
  simp only [Encoder.slot, Vector.getElem_set, BitVec.toNat_inj, eq_comm]

/-- Settles O36: PIXEL writes the encoder's state, the output and the counters. -/
theorem pixelFrame : Obligations.PixelFrame := by
  intro s p active
  have frame : OnlyDatapathWritten s ((s.emitAll (s.encoder.chunks p)).setEncoder (s.encoder.next p)) := by
    rw [emitAll_onlyOutput]
    rfl
  by_cases same : p = s.lastPx
  · have next : s.encoder.next p = { s.encoder with run := if s.run + 1 = runMax then 0 else s.run + 1 } := if_pos same
    refine ⟨_, exec_pix_active active p, ?_, fun _ => ?_, absurd same, fun i _ => ?_, frame⟩
    · rw [next]; exact same.symm
    · rw [next]; rfl
    · rw [next]; rfl
  · have next : s.encoder.next p = ⟨s.cache.set (hash p).toNat p, p, 0⟩ := if_neg same
    have slots := slot_next_of_ne (e := s.encoder) same
    refine ⟨_, exec_pix_active active p, ?_, fun h => absurd h same, fun _ => ⟨?_, ?_⟩, fun i other => ?_, frame⟩
    · rw [next]; rfl
    · rw [next]; rfl
    · rw [cacheAt_setEncoder, slots, if_pos rfl]
    · rw [cacheAt_setEncoder, slots, if_neg other]; rfl

/-! ## The frame of every instruction -/

/-- From `s` to `t` the descriptor, `stats_en`, the parameters and everything of the ports but the waiting output stayed
as they were. -/
def OnlyEngineWritten (s t : State) : Prop :=
  t = { s with
    cache := t.cache, lastPx := t.lastPx, run := t.run, phase := t.phase, pending := t.pending, statBits := t.statBits,
    statPixels := t.statPixels, statKpix := t.statKpix, statKbits := t.statKbits, illegalCmd := t.illegalCmd,
    refusedPixel := t.refusedPixel, refusedFinish := t.refusedFinish, descInvalid := t.descInvalid }

theorem OnlyDatapathWritten.onlyEngine {s t : State} (h : OnlyDatapathWritten s t) : OnlyEngineWritten s t := by
  rw [h]
  rfl

theorem raiseFlag_onlyEngine (f : StickyFlag) (s : State) : OnlyEngineWritten s (s.raiseFlag f) := by
  cases f <;> rfl

theorem exec_onlyEngine {i : Instr} {s t : State} (notInit : isInit i = false) (h : exec i s = .next t) :
    OnlyEngineWritten s t := by
  cases i with
  | init _ _ _ _ _ => cases notInit
  | pix p =>
    by_cases active : s.phase = .active
    · obtain ⟨t', ht', -, -, -, -, frame⟩ := pixelFrame s p active
      obtain rfl : t' = t := by simpa [ht'] using h
      exact OnlyDatapathWritten.onlyEngine frame
    · obtain rfl : s.raiseFlag .refusedPixel = t := by simpa [execPix_inactive p s active] using h
      exact raiseFlag_onlyEngine ..
  | finish =>
    cases phase : s.phase with
    | idle =>
      obtain rfl : s.raiseFlag .refusedFinish = t := by simpa [exec_finish_idle phase] using h
      exact raiseFlag_onlyEngine ..
    | done =>
      obtain rfl : s = t := by simpa [exec_finish_done phase] using h
      rfl
    | active =>
      obtain rfl : s.flushRun.setPhase .done = t := by simpa [exec_finish_active phase] using h
      rw [flushRun_onlyDatapath s]
      rfl
  | illegal =>
    obtain rfl := Host.Outcome.next.inj h
    exact raiseFlag_onlyEngine ..
  | index _ | diff _ _ _ | luma _ _ _ | run _ | rgb _ _ _ | rgba _ =>
    obtain rfl := Host.Outcome.next.inj h
    exact (emitChunk_onlyDatapath ..).onlyEngine

/-- Only INIT and PIXEL write the cache and `last_px`, and only these and FINISH write `run` (41_engine.md R149). -/
theorem exec_encoder {i : Instr} {s t : State} (notPix : ∀ p, i ≠ .pix p) (notInit : isInit i = false)
    (h : exec i s = .next t) : t.cache = s.cache ∧ t.lastPx = s.lastPx ∧ (i ≠ .finish → t.run = s.run) := by
  have of_encoder_eq (encoder : t.encoder = s.encoder) :
      t.cache = s.cache ∧ t.lastPx = s.lastPx ∧ (i ≠ .finish → t.run = s.run) := by
    obtain ⟨cache, lastPx, run⟩ := Encoder.mk.inj encoder
    exact ⟨cache, lastPx, fun _ => run⟩
  cases i with
  | init _ _ _ _ _ => cases notInit
  | pix p => exact absurd rfl (notPix p)
  | finish =>
    cases phase : s.phase with
    | idle =>
      obtain rfl : s.raiseFlag .refusedFinish = t := by simpa [exec_finish_idle phase] using h
      exact of_encoder_eq rfl
    | done =>
      obtain rfl : s = t := by simpa [exec_finish_done phase] using h
      exact of_encoder_eq rfl
    | active =>
      rw [exec_finish_active_eq phase] at h
      obtain rfl := Host.Outcome.next.inj h
      exact ⟨rfl, rfl, absurd rfl⟩
  | illegal =>
    obtain rfl := Host.Outcome.next.inj h
    exact of_encoder_eq rfl
  | index _ | diff _ _ _ | luma _ _ _ | run _ | rgb _ _ _ | rgba _ =>
    rw [exec_eq_emit rfl] at h
    obtain rfl := Host.Outcome.next.inj h
    exact of_encoder_eq (encoder_emit ..)

/-- Settles O39: INIT is `exec_init`; for the others it is their frame and what they write of the encoder's state. -/
theorem instructionsWriteOnlyTheirOwnState : Obligations.InstructionsWriteOnlyTheirOwnState := by
  intro i s
  by_cases init : isInit i = true
  · cases i with
    | init w h c cs en => exact ⟨_, exec_init .., by simp [isInit]⟩
    | pix _ | finish | illegal | index _ | diff _ _ _ | luma _ _ _ | run _ | rgb _ _ _ | rgba _ => cases init
  · have notInit : isInit i = false := by simpa using init
    obtain ⟨t, ht⟩ := exec_answers_next i s
    have frame := exec_onlyEngine notInit ht
    refine ⟨t, ht, fun notPix _ => exec_encoder notPix notInit ht, fun _ => ?_, ?_⟩
    · rw [frame]
      exact ⟨rfl, rfl, rfl, rfl, rfl⟩
    · rw [frame]
      exact ⟨rfl, rfl, rfl, rfl, rfl, rfl, rfl, rfl, rfl⟩

/-- The parameters and what stands at the ports, but for the waiting output, are those of `s`. -/
structure PortsKept (s t : State) : Prop where
  cfg : t.cfg = s.cfg
  busy : t.busy = s.busy
  out : t.out = s.out
  reads : t.reads = s.reads
  outReady : t.outReady = s.outReady
  rst : t.rst = s.rst
  work : t.work = s.work
  events : t.events = s.events
  draws : t.draws = s.draws

theorem exec_keeps_ports {i : Instr} {s t : State} (h : exec i s = .next t) : PortsKept s t := by
  obtain ⟨u, hu, -, -, cfg, busy, out, reads, outReady, rst, work, events, draws⟩ :=
    instructionsWriteOnlyTheirOwnState i s
  obtain rfl : u = t := by simpa [hu] using h
  exact ⟨cfg, busy, out, reads, outReady, rst, work, events, draws⟩

end Sys2Proof.Machine
end

section
/-! PROOFS. The statistics (10_state.md R31, 42_chunk_writer.md R160, R167): what the chunks that an instruction emits
do to the counters. -/

namespace Sys2Proof.Machine

open Sys2Proof.Safety

/-! ## The chunks an instruction emits -/

/-- The chunks that an instruction emits: those of PIXEL's policy, the flush of FINISH, a chunk row's own. -/
def chunksOf (s : State) : Instr → List Instr
  | .pix p => if s.phase = .active then s.encoder.chunks p else []
  | .finish => if s.phase = .active then runChunks s.run else []
  | .init .. | .illegal => []
  | .index i => [.index i]
  | .diff dr dg db => [.diff dr dg db]
  | .luma dg drg dbg => [.luma dg drg dbg]
  | .run n => [.run n]
  | .rgb r g b => [.rgb r g b]
  | .rgba p => [.rgba p]

/-- The state that emission writes, and the enable that it reads. -/
structure Output where
  pending : List Byte
  statsEn : Bool
  statPixels : BitVec 64
  statBits : BitVec 64
  statKpix : Vector (BitVec 64) 6
  statKbits : Vector (BitVec 64) 6

def State.output (s : State) : Output :=
  ⟨s.pending, s.statsEn, s.statPixels, s.statBits, s.statKpix, s.statKbits⟩

/-- An instruction other than INIT writes the output and the counters by emitting its chunks and in no other way. -/
theorem exec_output {i : Instr} (notInit : isInit i = false) (s : State) :
    ∃ t, exec i s = .next t ∧ t.output = (s.emitAll (chunksOf s i)).output := by
  cases i with
  | init _ _ _ _ _ => cases notInit
  | pix p =>
    by_cases active : s.phase = .active
    · rw [chunksOf, if_pos active]
      exact ⟨_, exec_pix_active active p, rfl⟩
    · rw [chunksOf, if_neg active]
      exact ⟨_, execPix_inactive p s active, rfl⟩
  | finish =>
    cases phase : s.phase with
    | idle => exact ⟨_, exec_finish_idle phase, by simp [chunksOf, phase]; rfl⟩
    | done => exact ⟨_, exec_finish_done phase, by simp [chunksOf, phase]⟩
    | active => exact ⟨_, exec_finish_active_eq phase, by simp [chunksOf, phase]; rfl⟩
  | illegal => exact ⟨_, rfl, rfl⟩
  | index _ | diff _ _ _ | luma _ _ _ | run _ | rgb _ _ _ | rgba _ => exact ⟨_, exec_eq_emit rfl s, rfl⟩

theorem runChunks_length_le (n : BitVec 6) : (runChunks n).length ≤ 1 := by
  unfold runChunks
  split
  · exact Nat.zero_le 1
  · exact le_rfl

theorem chunks_length_le (p : Pixel) (e : Encoder) : (e.chunks p).length ≤ 2 := by
  unfold Encoder.chunks
  split
  · split <;> simp
  · have flush := runChunks_length_le e.run
    rw [List.length_append, List.length_singleton]
    omega

/-- An instruction emits two chunks at most: a RUN and one more (41_engine.md R140). -/
theorem chunksOf_length_le (s : State) (i : Instr) : (chunksOf s i).length ≤ 2 := by
  cases i with
  | pix p =>
    rw [chunksOf]
    split
    · exact chunks_length_le p s.encoder
    · exact Nat.zero_le 2
  | finish =>
    rw [chunksOf]
    split
    · exact (runChunks_length_le s.run).trans (by decide)
    · exact Nat.zero_le 2
  | init _ _ _ _ _ | illegal => exact Nat.zero_le 2
  | index _ | diff _ _ _ | luma _ _ _ | run _ | rgb _ _ _ | rgba _ => exact Nat.le_succ 1

/-! ## Statistics off -/

/-- With statistics off emission only appends bytes (R160). -/
theorem emitAll_stats_off {s : State} (off : s.statsEn = false) (cs : List Instr) :
    ∃ bytes, s.emitAll cs = { s with pending := s.pending ++ bytes } := by
  induction cs generalizing s with
  | nil => exact ⟨[], by simp⟩
  | cons c cs ih =>
    have one : ∃ own, s.emit c = { s with pending := s.pending ++ own } := by
      cases command : c.isCommand with
      | true => exact ⟨[], by rw [emit_of_isCommand command, List.append_nil]⟩
      | false =>
        obtain ⟨k, own, -, -, emit⟩ := emit_eq_emitChunk command
        exact ⟨own, by rw [emit, emitChunk_stats_off k own _ s off]⟩
    obtain ⟨own, emit⟩ := one
    obtain ⟨bytes, rest⟩ := ih (s := s.emit c) (by rw [emit]; exact off)
    exact ⟨own ++ bytes, by rw [emitAll_cons, rest, emit, List.append_assoc]⟩

/-- Settles O22: an instruction touches the counters only by emitting chunks. -/
theorem statisticsOffLeavesCountersAlone : Obligations.StatisticsOffLeavesCountersAlone := by
  intro i s notInit off
  obtain ⟨t, ht, output⟩ := exec_output notInit s
  obtain ⟨bytes, emitted⟩ := emitAll_stats_off off (chunksOf s i)
  rw [emitted] at output
  obtain ⟨-, en, pixels, bits, kpix, kbits⟩ := Output.mk.inj output
  exact ⟨t, ht, pixels, bits, kpix, kbits, en.trans off⟩

/-! ## Total bits -/

/-- With statistics on, each emitted byte counts 8 bits (R160). -/
theorem emitAll_statBits {s : State} (on : s.statsEn = true) (cs : List Instr) :
    ∃ bytes, (s.emitAll cs).pending = s.pending ++ bytes ∧
      (s.emitAll cs).statBits = s.statBits + BitVec.ofNat 64 (8 * bytes.length) := by
  induction cs generalizing s with
  | nil => exact ⟨[], by simp⟩
  | cons c cs ih =>
    have one : ∃ own, (s.emit c).pending = s.pending ++ own ∧
        (s.emit c).statBits = s.statBits + BitVec.ofNat 64 (8 * own.length) := by
      cases command : c.isCommand with
      | true => exact ⟨[], by simp [emit_of_isCommand command]⟩
      | false =>
        obtain ⟨k, own, -, -, emit⟩ := emit_eq_emitChunk command
        have written := emitChunk_written k own (chunkPixels c) s
        rw [emit]
        exact ⟨own, written.bytes_appended, written.bits_counted.trans (if_pos on)⟩
    obtain ⟨own, appended, counted⟩ := one
    obtain ⟨bytes, appended', counted'⟩ := ih (s := s.emit c) (by rw [emit_onlyOutput]; exact on)
    refine ⟨own ++ bytes, ?_, ?_⟩
    · rw [emitAll_cons, appended', appended, List.append_assoc]
    · rw [emitAll_cons, counted', counted, List.length_append, Nat.mul_add, BitVec.ofNat_add, BitVec.add_assoc]

/-- Settles O23: an instruction's bytes are those of the chunks it emits. -/
theorem bitsCountedAreBytesEmitted : Obligations.BitsCountedAreBytesEmitted := by
  intro i s notInit on
  obtain ⟨t, ht, output⟩ := exec_output notInit s
  obtain ⟨bytes, appended, counted⟩ := emitAll_statBits on (chunksOf s i)
  obtain ⟨pending, -, -, bits, -, -⟩ := Output.mk.inj output
  exact ⟨t, bytes, ht, pending.trans appended, bits.trans counted⟩

/-! ## A kind's bits -/

/-- A chunk adds its kind's length to the kind's counter, or nothing. -/
theorem emit_statKbits (c : Instr) (s : State) (j : Fin 6) :
    ∃ m ≤ 1, (s.emit c).statKbits[j] = s.statKbits[j] + BitVec.ofNat 64 (kindBits j * m) := by
  cases command : c.isCommand with
  | true => exact ⟨0, by simp, by simp [emit_of_isCommand command]⟩
  | false =>
    obtain ⟨k, bytes, length, -, emit⟩ := emit_eq_emitChunk command
    rw [emit, (emitChunk_written ..).kind_bits_counted j, length]
    split
    case isTrue counted => exact ⟨1, le_rfl, by rw [counted.2, Nat.mul_one]⟩
    case isFalse => exact ⟨0, Nat.zero_le 1, by simp⟩

theorem emitAll_statKbits (cs : List Instr) (s : State) (j : Fin 6) :
    ∃ m ≤ cs.length, (s.emitAll cs).statKbits[j] = s.statKbits[j] + BitVec.ofNat 64 (kindBits j * m) := by
  induction cs generalizing s with
  | nil => exact ⟨0, le_rfl, by simp⟩
  | cons c cs ih =>
    obtain ⟨m, hm, own⟩ := emit_statKbits c s j
    obtain ⟨n, hn, rest⟩ := ih (s.emit c)
    refine ⟨m + n, by simp only [List.length_cons]; omega, ?_⟩
    rw [emitAll_cons, rest, own, Nat.mul_add, BitVec.ofNat_add, BitVec.add_assoc]

/-- An addition of less than 2^64 that does not make the counter smaller did not wrap. -/
theorem toNat_add_ofNat_of_le {x : BitVec 64} {n : Nat} (small : n < 2 ^ 64)
    (le : x.toNat ≤ (x + BitVec.ofNat 64 n).toNat) : (x + BitVec.ofNat 64 n).toNat = x.toNat + n := by
  rw [BitVec.toNat_add, BitVec.toNat_ofNat] at le ⊢
  omega

theorem kindBits_le (j : Fin 6) : kindBits j ≤ 40 := by
  revert j
  decide

/-- Settles O24: an instruction adds at most two chunk lengths to a kind's counter, too little to wrap unseen. -/
theorem kindBitsStayMultiplesOfChunkLength : Obligations.KindBitsStayMultiplesOfChunkLength := by
  intro i s t ht multiple noWrap j
  cases init : isInit i with
  | true =>
    cases i with
    | init w h c cs en =>
      rw [exec_init] at ht
      obtain rfl := Host.Outcome.next.inj ht
      simp
    | pix _ | finish | illegal | index _ | diff _ _ _ | luma _ _ _ | run _ | rgb _ _ _ | rgba _ => cases init
  | false =>
    obtain ⟨t', ht', output⟩ := exec_output init s
    obtain rfl : t' = t := by simpa [ht'] using ht
    obtain ⟨-, -, -, -, -, kbits⟩ := Output.mk.inj output
    obtain ⟨m, hm, counted⟩ := emitAll_statKbits (chunksOf s i) s j
    have added : t'.statKbits[j] = s.statKbits[j] + BitVec.ofNat 64 (kindBits j * m) := by rw [kbits, counted]
    have small : kindBits j * m < 2 ^ 64 :=
      calc kindBits j * m
        _ ≤ 40 * 2 := Nat.mul_le_mul (kindBits_le j) (hm.trans (chunksOf_length_le s i))
        _ < 2 ^ 64 := by decide
    have le := noWrap init j
    rw [added] at le ⊢
    rw [toNat_add_ofNat_of_le small le]
    exact Nat.dvd_add (multiple j) (Nat.dvd_mul_right ..)

end Sys2Proof.Machine
end

section
/-! PROOFS. Streams (41_engine.md R141 to R149): the chunks of a stream are a function of the encoder's state and the
pixels; what follows for its bytes and its counters; and that nothing is emitted outside a stream. -/

namespace Sys2Proof.Machine

open Sys2Proof.Safety

/-! ## The chunks of a stream -/

/-- The chunks of the pixels `ps` and of the FINISH after them. -/
def Encoder.stream : List Pixel → Encoder → List Instr
  | [], e => runChunks e.run
  | p :: ps, e => e.chunks p ++ Encoder.stream ps (e.next p)

theorem stream_allWellFormed (ps : List Pixel) {e : Encoder} (bounded : e.RunBounded) :
    AllWellFormed (e.stream ps) := by
  induction ps generalizing e with
  | nil => exact runChunks_allWellFormed bounded
  | cons p ps ih => exact (chunks_allWellFormed bounded p).append (ih (next_runBounded bounded p))

theorem runCommands_cons {i : Instr} {s t : State} (h : exec i s = .next t) (is : List Instr) :
    runCommands (i :: is) s = runCommands is t := by
  simp only [runCommands, h]

/-- Pixels, with reserved ops in between, and FINISH end the stream and emit the stream's chunks. -/
theorem runCommands_pixels_finish (L : List Instr) (inStream : ∀ i ∈ L, isPixOrIllegal i = true) {s : State}
    (active : s.phase = .active) :
    ∃ t, runCommands (L ++ [.finish]) s = .next t ∧ t.phase = .done ∧ t.run = 0 ∧
      t.output = (s.emitAll (s.encoder.stream (pixelsOf L))).output := by
  induction L generalizing s with
  | nil => exact ⟨_, runCommands_cons (exec_finish_active_eq active) [], rfl, rfl, rfl⟩
  | cons i L ih =>
    obtain ⟨head, tail⟩ := List.forall_mem_cons.1 inStream
    cases i with
    | pix p =>
      have next_active : ((s.emitAll (s.encoder.chunks p)).setEncoder (s.encoder.next p)).phase = .active := by
        rw [emitAll_onlyOutput]
        exact active
      obtain ⟨t, run, done, noRun, output⟩ := ih tail next_active
      refine ⟨t, (runCommands_cons (exec_pix_active active p) _).trans run, done, noRun, output.trans ?_⟩
      rw [(setEncoder_commutesWithEmission _).emitAll, encoder_setEncoder, ← emitAll_append]
      rfl
    | illegal =>
      obtain ⟨t, run, done, noRun, output⟩ := ih tail (s := s.raiseFlag .illegalCmd) active
      refine ⟨t, (runCommands_cons rfl _).trans run, done, noRun, output.trans ?_⟩
      rw [raiseFlag_illegalCmd_unread.emission.emitAll]
      rfl
    | init _ _ _ _ _ | finish | index _ | diff _ _ _ | luma _ _ _ | run _ | rgb _ _ _ | rgba _ => cases head

/-! ## A whole stream -/

/-- The encoder's state after INIT (R131). -/
def Encoder.start (l : LastPxInit) : Encoder := ⟨Vector.replicate 64 Pixel.zero, l.pixel, 0⟩

theorem start_runBounded (l : LastPxInit) : (Encoder.start l).RunBounded := Nat.zero_le _

/-- From any state, INIT starts a stream with the encoder and the counters at their start values. -/
theorem exec_init_starts (w h : BitVec 32) (c cs : Byte) (en : Bool) (s : State) :
    ∃ u, exec (.init w h c cs en) s = .next u ∧ u.phase = .active ∧ u.encoder = .start s.cfg.lastPxInit ∧
      u.output = ⟨s.pending, en, 0, 0, Vector.replicate 6 0, Vector.replicate 6 0⟩ :=
  ⟨_, exec_init w h c cs en s, rfl, rfl, rfl⟩

/-- A whole stream, INIT to FINISH, ends in DONE and emits the chunks of its pixels from the encoder's start. -/
theorem runCommands_stream (w h : BitVec 32) (c cs : Byte) (en : Bool) (s : State) {L : List Instr}
    (inStream : ∀ i ∈ L, isPixOrIllegal i = true) :
    ∃ u t : State, u.output = ⟨s.pending, en, 0, 0, Vector.replicate 6 0, Vector.replicate 6 0⟩ ∧
      runCommands (.init w h c cs en :: (L ++ [.finish])) s = .next t ∧ t.phase = .done ∧ t.run = 0 ∧
      t.output = (u.emitAll ((Encoder.start s.cfg.lastPxInit).stream (pixelsOf L))).output := by
  obtain ⟨u, started, active, encoder, zeroed⟩ := exec_init_starts w h c cs en s
  obtain ⟨t, run, done, noRun, output⟩ := runCommands_pixels_finish L inStream active
  exact ⟨u, t, zeroed, (runCommands_cons started _).trans run, done, noRun, by rw [output, encoder]⟩

/-! ## The bytes of a stream -/

/-- The bytes of a stream with these pixels. -/
def streamBytes (l : LastPxInit) (ps : List Pixel) : List Byte := ((Encoder.start l).stream ps).flatMap chunkBytes

theorem runCommands_stream_pending (w h : BitVec 32) (c cs : Byte) (en : Bool) (s : State) {L : List Instr}
    (inStream : ∀ i ∈ L, isPixOrIllegal i = true) :
    ∃ t, runCommands (.init w h c cs en :: (L ++ [.finish])) s = .next t ∧
      t.pending = s.pending ++ streamBytes s.cfg.lastPxInit (pixelsOf L) := by
  obtain ⟨u, t, zeroed, run, -, -, output⟩ := runCommands_stream w h c cs en s inStream
  obtain ⟨pending, -⟩ := Output.mk.inj output
  obtain ⟨before, -⟩ := Output.mk.inj zeroed
  refine ⟨t, run, ?_⟩
  rw [pending, emitAll_pending (stream_allWellFormed _ (start_runBounded _)), before, streamBytes]

/-- Settles O57: both streams emit `streamBytes` of the same parameter and the same pixels. -/
theorem streamBytesDependOnPixelsOnly : Obligations.StreamBytesDependOnPixelsOnly := by
  intro s₁ s₂ w₁ h₁ w₂ h₂ c₁ cs₁ c₂ cs₂ en₁ en₂ L₁ L₂ sameInit in₁ in₂ samePixels
  obtain ⟨t₁, run₁, pending₁⟩ := runCommands_stream_pending w₁ h₁ c₁ cs₁ en₁ s₁ in₁
  obtain ⟨t₂, run₂, pending₂⟩ := runCommands_stream_pending w₂ h₂ c₂ cs₂ en₂ s₂ in₂
  rw [← sameInit, ← samePixels] at pending₂
  exact ⟨t₁, t₂, _, run₁, run₂, pending₁, pending₂⟩

/-! ## The counters of a stream -/

theorem pixelsOf_map_pix (ps : List Pixel) : pixelsOf (ps.map .pix) = ps := by
  induction ps with
  | nil => rfl
  | cons p ps ih => rw [List.map_cons, pixelsOf, ih]

theorem isPixOrIllegal_of_mem_map_pix (ps : List Pixel) : ∀ i ∈ ps.map Instr.pix, isPixOrIllegal i = true := by
  intro i hi
  obtain ⟨p, -, rfl⟩ := List.mem_map.1 hi
  rfl

theorem emit_statPixels {s : State} (on : s.statsEn = true) (c : Instr) :
    (s.emit c).statPixels = s.statPixels + BitVec.ofNat 64 (chunkPixels c) := by
  cases command : c.isCommand with
  | true =>
    rw [emit_of_isCommand command]
    cases c with
    | init _ _ _ _ _ | pix _ | finish | illegal => exact (BitVec.add_zero _).symm
    | index _ | diff _ _ _ | luma _ _ _ | run _ | rgb _ _ _ | rgba _ => cases command
  | false =>
    obtain ⟨k, bytes, -, -, emit⟩ := emit_eq_emitChunk command
    rw [emit, (emitChunk_written ..).pixels_counted, if_pos on]

/-- With statistics on, each emitted chunk counts its pixels (42_chunk_writer.md R160). -/
theorem emitAll_statPixels {s : State} (on : s.statsEn = true) (cs : List Instr) :
    (s.emitAll cs).statPixels = s.statPixels + BitVec.ofNat 64 (cs.map chunkPixels).sum := by
  induction cs generalizing s with
  | nil => simp
  | cons c cs ih =>
    rw [emitAll_cons, ih (by rw [emit_onlyOutput]; exact on), emit_statPixels on, List.map_cons, List.sum_cons,
      BitVec.ofNat_add, BitVec.add_assoc]

/-- The totals are the sums over the kinds (10_state.md R31). -/
def SumsAgree (s : State) : Prop := s.statPixels = sum6 s.statKpix ∧ s.statBits = sum6 s.statKbits

theorem SumsAgree.emit {s : State} (h : SumsAgree s) (c : Instr) : SumsAgree (s.emit c) := by
  cases command : c.isCommand with
  | true => rwa [emit_of_isCommand command]
  | false =>
    obtain ⟨k, bytes, -, -, emit⟩ := emit_eq_emitChunk command
    rw [emit]
    exact emitChunk_sums k bytes _ s h.1 h.2

theorem SumsAgree.emitAll {s : State} (h : SumsAgree s) (cs : List Instr) : SumsAgree (s.emitAll cs) := by
  induction cs generalizing s with
  | nil => exact h
  | cons c cs ih => exact ih (h.emit c)

theorem runChunks_pixels (n : BitVec 6) : ((runChunks n).map chunkPixels).sum = n.toNat := by
  unfold runChunks
  split
  case isTrue zero => rw [zero]; rfl
  case isFalse => simp [chunkPixels]

theorem chunkPixels_chunkOf (p : Pixel) (e : Encoder) : chunkPixels (e.chunkOf p) = 1 := by
  obtain ⟨chunk, notRun, -⟩ := chunkOf_spec p e
  cases h : e.chunkOf p with
  | init _ _ _ _ _ | pix _ | finish | illegal => rw [h] at chunk; cases chunk
  | run n => exact absurd h (notRun n)
  | index _ | diff _ _ _ | luma _ _ _ | rgb _ _ _ | rgba _ => rfl

/-- PIXEL represents one pixel more: by its chunks, or in the run that it leaves pending. -/
theorem chunks_pixels {e : Encoder} (bounded : e.RunBounded) (p : Pixel) :
    ((e.chunks p).map chunkPixels).sum + (e.next p).run.toNat = e.run.toNat + 1 := by
  unfold Encoder.RunBounded at bounded
  rw [Encoder.chunks, Encoder.next]
  split
  case isTrue =>
    dsimp only
    split
    case isTrue full => simp [chunkPixels]; bv_omega
    case isFalse => simp; bv_omega
  case isFalse =>
    simp [runChunks_pixels, chunkPixels_chunkOf]

/-- A stream's chunks represent its pixels, and the run that was pending. -/
theorem stream_pixels (ps : List Pixel) {e : Encoder} (bounded : e.RunBounded) :
    ((e.stream ps).map chunkPixels).sum = e.run.toNat + ps.length := by
  induction ps generalizing e with
  | nil => exact runChunks_pixels e.run
  | cons p ps ih =>
    have one := chunks_pixels bounded p
    rw [Encoder.stream, List.map_append, List.sum_append, ih (next_runBounded bounded p), List.length_cons]
    omega

/-- Settles O25: INIT starts with all counters 0, and the stream's chunks represent its pixels. -/
theorem streamCountsEveryPixelOnce : Obligations.StreamCountsEveryPixelOnce := by
  intro s w h c cs ps
  obtain ⟨u, t, zeroed, run, done, noRun, output⟩ :=
    runCommands_stream w h c cs true s (isPixOrIllegal_of_mem_map_pix ps)
  obtain ⟨-, on, pixels, bits, kpix, kbits⟩ := Output.mk.inj zeroed
  obtain ⟨-, -, pixels', bits', kpix', kbits'⟩ := Output.mk.inj output
  have start : SumsAgree u := by
    unfold SumsAgree
    rw [pixels, bits, kpix, kbits]
    decide
  obtain ⟨sumPixels, sumBits⟩ := start.emitAll ((Encoder.start s.cfg.lastPxInit).stream (pixelsOf (ps.map .pix)))
  refine ⟨t, run, done, noRun, ?_, ?_, ?_⟩
  · rw [pixels', emitAll_statPixels on, pixels, stream_pixels _ (start_runBounded _), pixelsOf_map_pix]
    simp [Encoder.start]
  · rw [pixels', kpix', sumPixels]
  · rw [bits', kbits', sumBits]

/-! ## Outside a stream -/

/-- From `s` to `t` only sticky flags that a refusal raises were written. -/
def OnlyRefusalFlagsWritten (s t : State) : Prop :=
  t = { s with illegalCmd := t.illegalCmd, refusedPixel := t.refusedPixel, refusedFinish := t.refusedFinish }

theorem OnlyRefusalFlagsWritten.trans {s t u : State} (hst : OnlyRefusalFlagsWritten s t)
    (htu : OnlyRefusalFlagsWritten t u) : OnlyRefusalFlagsWritten s u :=
  Eq.trans htu (by rw [hst])

/-- A command other than INIT writes nothing but its flag outside ACTIVE (41_engine.md R141 to R143). -/
theorem exec_outside_stream {i : Instr} {s : State} (outside : s.phase ≠ .active) (command : i.isCommand = true)
    (notInit : isInit i = false) : ∃ t, exec i s = .next t ∧ OnlyRefusalFlagsWritten s t := by
  cases i with
  | init _ _ _ _ _ => cases notInit
  | pix p => exact ⟨_, execPix_inactive p s outside, rfl⟩
  | finish =>
    cases phase : s.phase with
    | idle => exact ⟨_, exec_finish_idle phase, rfl⟩
    | done => exact ⟨_, exec_finish_done phase, rfl⟩
    | active => exact absurd phase outside
  | illegal => exact ⟨_, rfl, rfl⟩
  | index _ | diff _ _ _ | luma _ _ _ | run _ | rgb _ _ _ | rgba _ => cases command

/-- Settles O58: the phase is among what does not change, so the next command is outside a stream as well. -/
theorem nothingEmittedOutsideAStream : Obligations.NothingEmittedOutsideAStream := by
  intro L
  induction L with
  | nil => exact fun s _ _ => ⟨s, rfl, rfl⟩
  | cons i L ih =>
    intro s outside commands
    obtain ⟨⟨command, notInit⟩, tail⟩ := List.forall_mem_cons.1 commands
    obtain ⟨u, hu, flag⟩ := exec_outside_stream outside command notInit
    obtain ⟨t, ht, flags⟩ := ih u (by rw [flag]; exact outside) tail
    exact ⟨t, (runCommands_cons hu L).trans ht, OnlyRefusalFlagsWritten.trans flag flags⟩

end Sys2Proof.Machine
end

section
/-! PROOFS. The round trip (41_engine.md R148): the reference decoder, fed the chunks of a stream, follows the
encoder. The two caches may differ, since the decoder stores the pixels of a run as well (log 17); what they share is
every hit. -/

namespace Sys2Proof.Safety

open Sys2Proof.Machine

/-! ## The decoder on chunks -/

/-- The decoder after one chunk. -/
def RefDecoder.feed (d : RefDecoder) (c : Instr) : RefDecoder := (d.pixels c).foldl RefDecoder.store d

/-- The pixels that a list of chunks stands for. -/
def RefDecoder.decodeAll (d : RefDecoder) : List Instr → List Pixel
  | [] => []
  | c :: cs => d.pixels c ++ (d.feed c).decodeAll cs

/-- A command among the chunks has no bytes and stands for no pixels. -/
theorem no_bytes_no_pixels_of_isCommand {c : Instr} (command : c.isCommand = true) (d : RefDecoder) :
    chunkBytes c = [] ∧ d.pixels c = [] := by
  cases c with
  | init _ _ _ _ _ | pix _ | finish | illegal => exact ⟨rfl, rfl⟩
  | index _ | diff _ _ _ | luma _ _ _ | run _ | rgb _ _ _ | rgba _ => cases command

theorem chunkBytes_ne_nil {c : Instr} (chunk : c.isCommand = false) : chunkBytes c ≠ [] := by
  cases c with
  | init _ _ _ _ _ | pix _ | finish | illegal => cases chunk
  | index _ | diff _ _ _ | luma _ _ _ | run _ | rgb _ _ _ | rgba _ => exact List.cons_ne_nil _ _

/-- One chunk at the head of the bytes. -/
theorem refDecodeFrom_succ_of_decodeChunk {fuel : Nat} {b : Byte} {bs rest : List Byte} {c : Instr} {qs : List Pixel}
    {d : RefDecoder} (dec : decodeChunk (b :: bs) = .ok (c, rest)) (ih : refDecodeFrom fuel rest (d.feed c) = some qs) :
    refDecodeFrom (fuel + 1) (b :: bs) d = some (d.pixels c ++ qs) := by
  unfold RefDecoder.feed at ih
  simp only [refDecodeFrom, dec, ih]

/-- The decoder reads the bytes of well-formed chunks as the pixels these stand for. -/
theorem refDecodeFrom_chunkBytes {cs : List Instr} (wf : AllWellFormed cs) (d : RefDecoder) {fuel : Nat}
    (enough : (cs.flatMap chunkBytes).length ≤ fuel) :
    refDecodeFrom fuel (cs.flatMap chunkBytes) d = some (d.decodeAll cs) := by
  induction cs generalizing d fuel with
  | nil => rw [List.flatMap_nil, refDecodeFrom]; rfl
  | cons c cs ih =>
    obtain ⟨wf_c, wf_cs⟩ := List.forall_mem_cons.1 wf
    rw [List.flatMap_cons] at enough ⊢
    cases command : c.isCommand with
    | true =>
      obtain ⟨noBytes, noPixels⟩ := no_bytes_no_pixels_of_isCommand command d
      rw [noBytes, List.nil_append] at enough ⊢
      rw [RefDecoder.decodeAll, RefDecoder.feed, noPixels]
      exact ih wf_cs d enough
    | false =>
      have dec := decodeChunk_encode_append wf_c (encode_eq_chunkBytes command) (cs.flatMap chunkBytes)
      cases bytes : chunkBytes c with
      | nil => exact absurd bytes (chunkBytes_ne_nil command)
      | cons b own =>
        rw [bytes] at dec enough
        cases fuel with
        | zero => simp at enough
        | succ fuel =>
          have rest : (cs.flatMap chunkBytes).length ≤ fuel := by
            simp only [List.cons_append, List.length_cons, List.length_append] at enough
            omega
          exact refDecodeFrom_succ_of_decodeChunk dec (ih wf_cs _ rest)

/-! ## A chunk's pixel is the pixel that was coded -/

/-- Adding the wrapped difference back gives the channel back (40_pixel_model.md R113). -/
theorem add_ofInt_d8 (a b : Byte) : b + BitVec.ofInt 8 (d8 a b) = a := by
  have congruent := dvd_d8_sub a b
  apply BitVec.eq_of_toNat_eq
  rw [BitVec.toNat_add, BitVec.toNat_ofInt]
  omega

theorem plusDelta_diff {p l : Pixel} (alpha : (diff p l).da = 0) :
    plusDelta l (diff p l).dr (diff p l).dg (diff p l).db = p := by
  have same : p.A = l.A := (d8_eq_zero_iff p.A l.A).1 alpha
  simp only [plusDelta, diff, add_ofInt_d8, ← same]

theorem pixels_deltaChunk (p : Pixel) (d : RefDecoder) : d.pixels (deltaChunk p d.prev) = [p] := by
  unfold deltaChunk
  split
  case isTrue small =>
    obtain ⟨alpha, -⟩ := (diffOk_iff _).1 small
    exact congrArg (fun q => [q]) (plusDelta_diff alpha)
  case isFalse =>
    split
    case isTrue luma =>
      obtain ⟨alpha, -⟩ := (lumaOk_iff _).1 luma
      simp only [RefDecoder.pixels, add_sub_cancel, plusDelta_diff alpha]
    case isFalse =>
      split
      case isTrue alpha =>
        have same : p.A = d.prev.A := (d8_eq_zero_iff p.A d.prev.A).1 alpha
        rw [RefDecoder.pixels, ← same]
      case isFalse => rfl

/-! ## The decoder follows the encoder -/

/-- The decoder has the encoder's last pixel, and every pixel that the encoder's cache answers. Of the pixels with the
last one's hash the encoder's cache answers the last one only, so storing it once more in a run loses no hit. -/
structure Follows (d : RefDecoder) (e : Encoder) : Prop where
  prev : d.prev = e.lastPx
  hits : ∀ q, e.slot (hash q) = q → d.cache[(hash q).toNat] = q
  last : ∀ q, hash q = hash e.lastPx → e.slot (hash q) = q → q = e.lastPx

theorem store_cache_getElem (d : RefDecoder) (p : Pixel) (i : Slot) :
    (d.store p).cache[i.toNat] = if i = hash p then p else d.cache[i.toNat] := by
  simp only [RefDecoder.store, Vector.getElem_set, BitVec.toNat_inj, eq_comm]

/-- The first pixel before any has been coded is no hit, unless it is the pixel that fills the cache. -/
theorem follows_start (l : LastPxInit) : Follows (.start l) (.start l) where
  prev := rfl
  hits q hit := hit
  last q sameHash hit := by
    have zero : q = Pixel.zero := by
      rw [← hit]
      simp [Encoder.start, Encoder.slot]
    subst zero
    cases l with
    | opaqueBlack => exact absurd sameHash (by decide)
    | zeroAlpha => rfl

section

variable {d : RefDecoder} {e : Encoder} (h : Follows d e)
include h

theorem Follows.setRun (n : BitVec 6) : Follows d { e with run := n } := ⟨h.prev, h.hits, h.last⟩

theorem Follows.store_last : Follows (d.store e.lastPx) e where
  prev := rfl
  hits q hit := by
    rw [store_cache_getElem]
    split
    case isTrue same => exact (h.last q same hit).symm
    case isFalse => exact h.hits q hit
  last := h.last

theorem Follows.store_replicate_last (n : Nat) : Follows ((List.replicate n e.lastPx).foldl RefDecoder.store d) e := by
  induction n generalizing d with
  | zero => exact h
  | succ n ih => exact ih h.store_last

theorem Follows.feed_run (n : BitVec 6) : Follows (d.feed (.run n)) e := by
  rw [RefDecoder.feed, RefDecoder.pixels, h.prev]
  exact h.store_replicate_last n.toNat

theorem Follows.pixels_chunkOf (p : Pixel) : d.pixels (e.chunkOf p) = [p] := by
  unfold Encoder.chunkOf
  split
  case isTrue hit => exact congrArg (fun q => [q]) (h.hits p hit)
  case isFalse => rw [← h.prev, pixels_deltaChunk]

theorem Follows.store_next {p : Pixel} (differs : p ≠ e.lastPx) : Follows (d.store p) (e.next p) where
  prev := by rw [Encoder.next, if_neg differs]; rfl
  hits q hit := by
    rw [slot_next_of_ne differs] at hit
    rw [store_cache_getElem]
    split at hit
    case isTrue same => rw [if_pos same, hit]
    case isFalse other => rw [if_neg other, h.hits q hit]
  last q sameHash hit := by
    have next : (e.next p).lastPx = p := by rw [Encoder.next, if_neg differs]
    rw [next] at sameHash ⊢
    rw [slot_next_of_ne differs, if_pos sameHash] at hit
    exact hit.symm

/-- A pending run is decoded as its pixels, and the decoder goes on following. -/
theorem Follows.decodeAll_runChunks_append (n : BitVec 6) : ∃ d', Follows d' e ∧
    ∀ cs, d.decodeAll (runChunks n ++ cs) = List.replicate n.toNat e.lastPx ++ d'.decodeAll cs := by
  unfold runChunks
  split
  case isTrue zero => exact ⟨d, h, fun cs => by rw [zero]; rfl⟩
  case isFalse =>
    refine ⟨d.feed (.run n), h.feed_run n, fun cs => ?_⟩
    rw [List.singleton_append, RefDecoder.decodeAll, RefDecoder.pixels, h.prev]

/-- A stream is decoded as its pixels, after those of the run that was pending. -/
theorem Follows.decodeAll_stream (bounded : e.RunBounded) (ps : List Pixel) :
    d.decodeAll (e.stream ps) = List.replicate e.run.toNat e.lastPx ++ ps := by
  induction ps generalizing d e with
  | nil =>
    obtain ⟨d', -, decoded⟩ := h.decodeAll_runChunks_append e.run
    simpa [Encoder.stream, RefDecoder.decodeAll] using decoded []
  | cons p ps ih =>
    have bounded' := next_runBounded bounded p
    rw [Encoder.stream]
    by_cases same : p = e.lastPx
    · have oneMore :
          List.replicate (e.run.toNat + 1) e.lastPx ++ ps = List.replicate e.run.toNat e.lastPx ++ p :: ps := by
        rw [List.replicate_succ', List.append_assoc, List.singleton_append, same]
      rw [← oneMore]
      rw [Encoder.next, if_pos same] at bounded' ⊢
      rw [Encoder.chunks, if_pos same]
      by_cases full : e.run + 1 = runMax
      · have length : e.run.toNat + 1 = runMax.toNat := by
          rw [(run_add_one_eq_runMax_iff e.run).1 full]
          rfl
        rw [if_pos full] at bounded'
        rw [if_pos full, if_pos full, List.singleton_append, RefDecoder.decodeAll, RefDecoder.pixels, h.prev, length,
          ih ((h.feed_run runMax).setRun 0) bounded']
        rfl
      · have length : (e.run + 1).toNat = e.run.toNat + 1 := by
          unfold Encoder.RunBounded at bounded
          bv_omega
        rw [if_neg full] at bounded' ⊢
        rw [if_neg full, List.nil_append, ih (h.setRun _) bounded', length]
    · obtain ⟨d', h', decoded⟩ := h.decodeAll_runChunks_append e.run
      rw [Encoder.chunks, if_neg same, List.append_assoc, decoded, List.singleton_append, RefDecoder.decodeAll,
        RefDecoder.feed, h'.pixels_chunkOf, List.foldl_cons, List.foldl_nil, ih (h'.store_next same) bounded',
        Encoder.next, if_neg same]
      rfl

end

/-- Settles O56: the bytes of a stream are those of its chunks, which the decoder reads as the pixels. -/
theorem decodedStreamIsTheInputPixels : Obligations.DecodedStreamIsTheInputPixels := by
  intro s w h c cs en ps
  obtain ⟨t, run, pending⟩ := runCommands_stream_pending w h c cs en s (isPixOrIllegal_of_mem_map_pix ps)
  rw [pixelsOf_map_pix] at pending
  refine ⟨t, _, run, pending, ?_⟩
  have bounded := start_runBounded s.cfg.lastPxInit
  rw [refDecode, streamBytes, refDecodeFrom_chunkBytes (stream_allWellFormed ps bounded) _ le_rfl,
    (follows_start s.cfg.lastPxInit).decodeAll_stream bounded ps]
  rfl

end Sys2Proof.Safety
end

section
/-! PROOFS. The invariant of the machine (10_state.md sections 2 to 5 and 8), in three parts that are kept for three
reasons: the encoder's state, the counters, and the ports. -/

namespace Sys2Proof.Machine

open Sys2Proof.Safety

/-! ## The three parts -/

/-- A slot holds the zero pixel or a pixel whose hash is its index (10_state.md R22). -/
def Encoder.SlotsHashed (e : Encoder) : Prop := ∀ i, e.slot i = Pixel.zero ∨ hash (e.slot i) = i

/-- The run and the cache (10_state.md R22, R24). -/
structure EncoderInv (s : State) : Prop where
  bounded : s.encoder.RunBounded
  run_active : s.encoder.run ≠ 0 → s.phase = .active
  hashed : s.encoder.SlotsHashed

/-- The totals are the sums over the kinds, and all counters are 0 with statistics off (10_state.md R31,
42_chunk_writer.md R167). -/
structure CountersInv (o : Output) : Prop where
  pixels_sum : o.statPixels = sum6 o.statKpix
  bits_sum : o.statBits = sum6 o.statKbits
  stats_off : o.statsEn = false →
    o.statPixels = 0 ∧ o.statBits = 0 ∧ (∀ j : Fin 6, o.statKpix[j] = 0) ∧ ∀ j : Fin 6, o.statKbits[j] = 0

/-- What stands at the ports (10_state.md R40, R42, 70_reset_and_hazards.md R200). -/
structure PortsInv (s : State) : Prop where
  pending_busy : s.pending ≠ [] → s.busy = true
  reset_held : s.rst = true → s.busy = false ∧ s.phase = .idle
  work_commands : ∀ f ∈ s.work, f.isCommand = true

theorem inv_iff (s : State) : Inv s ↔ EncoderInv s ∧ CountersInv s.output ∧ PortsInv s :=
  ⟨fun h => ⟨⟨h.run_bound, h.run_active, h.slots_hashed⟩, ⟨h.pixels_sum, h.bits_sum, h.stats_off⟩,
      ⟨h.pending_busy, h.reset_held, h.work_commands⟩⟩,
    fun ⟨e, c, p⟩ => ⟨e.bounded, e.run_active, e.hashed, c.pixels_sum, c.bits_sum, c.stats_off, p.pending_busy,
      p.reset_held, p.work_commands⟩⟩

/-! ## Start values -/

theorem start_slotsHashed (l : LastPxInit) : (Encoder.start l).SlotsHashed := by
  intro i
  left
  simp [Encoder.start, Encoder.slot]

theorem encoderInv_of_start {s : State} {l : LastPxInit} (start : s.encoder = .start l) : EncoderInv s where
  bounded := start ▸ start_runBounded l
  run_active nonzero := absurd (by rw [start]; rfl) nonzero
  hashed := start ▸ start_slotsHashed l

theorem sum6_replicate_zero : sum6 (Vector.replicate 6 0) = 0 := by decide

theorem countersInv_of_zero (pending : List Byte) (en : Bool) :
    CountersInv ⟨pending, en, 0, 0, Vector.replicate 6 0, Vector.replicate 6 0⟩ where
  pixels_sum := sum6_replicate_zero.symm
  bits_sum := sum6_replicate_zero.symm
  stats_off _ := by simp

theorem resetWith_inv (c : Config) : Inv (State.resetWith c) :=
  (inv_iff _).2 ⟨encoderInv_of_start (l := c.lastPxInit) rfl, countersInv_of_zero [] false, by simp [State.resetWith],
    by simp [State.resetWith], by simp [State.resetWith]⟩

/-- Settles O54: reset leaves the encoder and the counters at their start values and the ports idle. -/
theorem resetStateMeetsInv : Obligations.ResetStateMeetsInv := ⟨resetWith_inv Config.default, resetWith_inv⟩

/-! ## Every instruction keeps the first two parts -/

theorem next_slotsHashed {e : Encoder} (hashed : e.SlotsHashed) (p : Pixel) : (e.next p).SlotsHashed := by
  intro i
  by_cases same : p = e.lastPx
  · rw [Encoder.next, if_pos same]
    exact hashed i
  · rw [slot_next_of_ne same]
    split
    case isTrue slot => exact .inr slot.symm
    case isFalse => exact hashed i

theorem EncoderInv.of_eq {s t : State} (h : EncoderInv s) (encoder : t.encoder = s.encoder)
    (phase : t.phase = s.phase) : EncoderInv t where
  bounded := encoder ▸ h.bounded
  run_active := by rw [encoder, phase]; exact h.run_active
  hashed := encoder ▸ h.hashed

theorem exec_keeps_encoderInv {i : Instr} {s t : State} (h : EncoderInv s) (ht : exec i s = .next t) :
    EncoderInv t := by
  cases i with
  | init w H c cs en =>
    obtain ⟨u, hu, -, start, -⟩ := exec_init_starts w H c cs en s
    obtain rfl : u = t := by simpa [hu] using ht
    exact encoderInv_of_start start
  | pix p =>
    by_cases active : s.phase = .active
    · rw [exec_pix_active active] at ht
      obtain rfl := Host.Outcome.next.inj ht
      refine ⟨next_runBounded h.bounded p, fun _ => ?_, next_slotsHashed h.hashed p⟩
      rw [emitAll_onlyOutput]
      exact active
    · rw [execPix_inactive p s active] at ht
      obtain rfl := Host.Outcome.next.inj ht
      exact h.of_eq rfl rfl
  | finish =>
    cases phase : s.phase with
    | idle =>
      rw [exec_finish_idle phase] at ht
      obtain rfl := Host.Outcome.next.inj ht
      exact h.of_eq rfl rfl
    | done =>
      rw [exec_finish_done phase] at ht
      obtain rfl := Host.Outcome.next.inj ht
      exact h
    | active =>
      rw [exec_finish_active_eq phase] at ht
      obtain rfl := Host.Outcome.next.inj ht
      exact ⟨Nat.zero_le _, absurd rfl, h.hashed⟩
  | illegal =>
    obtain rfl := Host.Outcome.next.inj ht
    exact h.of_eq rfl rfl
  | index _ | diff _ _ _ | luma _ _ _ | run _ | rgb _ _ _ | rgba _ =>
    rw [exec_eq_emit rfl] at ht
    obtain rfl := Host.Outcome.next.inj ht
    exact h.of_eq (encoder_emit ..) (by rw [emit_onlyOutput])

theorem CountersInv.emitAll {s : State} (h : CountersInv s.output) (cs : List Instr) :
    CountersInv (s.emitAll cs).output := by
  obtain ⟨pixels, bits⟩ := SumsAgree.emitAll (s := s) ⟨h.pixels_sum, h.bits_sum⟩ cs
  refine ⟨pixels, bits, fun off => ?_⟩
  have before : s.statsEn = false := by
    rw [← off, emitAll_onlyOutput cs s]
    rfl
  obtain ⟨bytes, emitted⟩ := emitAll_stats_off before cs
  rw [emitted]
  exact h.stats_off before

theorem exec_keeps_countersInv {i : Instr} {s t : State} (h : CountersInv s.output) (ht : exec i s = .next t) :
    CountersInv t.output := by
  cases init : isInit i with
  | true =>
    cases i with
    | init w H c cs en =>
      obtain ⟨u, hu, -, -, zeroed⟩ := exec_init_starts w H c cs en s
      obtain rfl : u = t := by simpa [hu] using ht
      rw [zeroed]
      exact countersInv_of_zero ..
    | pix _ | finish | illegal | index _ | diff _ _ _ | luma _ _ _ | run _ | rgb _ _ _ | rgba _ => cases init
  | false =>
    obtain ⟨u, hu, output⟩ := exec_output init s
    obtain rfl : u = t := by simpa [hu] using ht
    rw [output]
    exact h.emitAll _

/-! ## Every step keeps the invariant -/

/-- An instruction runs with `busy` = 1, so its bytes wait rightly, and out of reset. -/
theorem exec_keeps_inv {i : Instr} {s t : State} (h : Inv s) (busy : s.busy = true) (running : s.rst = false)
    (ht : exec i s = .next t) : Inv t := by
  obtain ⟨encoder, counters, ports⟩ := (inv_iff s).1 h
  have kept := exec_keeps_ports ht
  refine (inv_iff t).2 ⟨exec_keeps_encoderInv encoder ht, exec_keeps_countersInv counters ht,
    fun _ => kept.busy.trans busy, fun reset => ?_, kept.work ▸ ports.work_commands⟩
  rw [kept.rst, running] at reset
  cases reset

theorem blockMove_keeps_inv {s t : State} (h : Inv s) (move : s.blockMove = .next t) : Inv t := by
  obtain ⟨encoder, counters, ports⟩ := (inv_iff s).1 h
  obtain ⟨rfl, -⟩ | ⟨running, -, b, rest, -, rfl⟩ | ⟨running, empty, -, rfl⟩ |
    ⟨running, empty, -, f, fs, i, work, -, hi⟩ := blockMove_cases move
  · exact h
  · refine (inv_iff _).2 ⟨encoder.of_eq rfl rfl, ⟨counters.pixels_sum, counters.bits_sum, counters.stats_off⟩,
      fun waiting => ?_, fun reset => ?_, ports.work_commands⟩
    · simpa using waiting
    · exact absurd (running.symm.trans reset) (by decide)
  · refine (inv_iff _).2 ⟨encoder.of_eq rfl rfl, counters, fun waiting => absurd empty waiting, fun reset => ?_,
      ports.work_commands⟩
    exact absurd (running.symm.trans reset) (by decide)
  · have tail : ∀ g ∈ fs, g.isCommand = true := fun g hg => ports.work_commands g (by rw [work]; exact .tail f hg)
    have accepted : Inv (s.accept fs) := (inv_iff _).2 ⟨encoder.of_eq rfl rfl, counters, fun _ => rfl,
      fun reset => absurd (running.symm.trans reset) (by decide), tail⟩
    exact exec_keeps_inv accepted rfl running hi

theorem applyReset_inv {s : State} (work : ∀ f ∈ s.work, f.isCommand = true) (level : Bool) :
    Inv { s.applyReset with rst := level } :=
  (inv_iff _).2 ⟨encoderInv_of_start (l := s.cfg.lastPxInit) rfl, countersInv_of_zero [] false, absurd rfl,
    fun _ => ⟨rfl, rfl⟩, work⟩

theorem setRst_keeps_inv {s : State} (h : Inv s) (level : Bool) : Inv (s.setRst level) := by
  obtain ⟨encoder, counters, ports⟩ := (inv_iff s).1 h
  unfold State.setRst
  split
  case isTrue => exact applyReset_inv ports.work_commands level
  case isFalse stays =>
    obtain ⟨low, -⟩ : level = false ∧ s.rst = false := by simpa using stays
    exact (inv_iff _).2 ⟨encoder.of_eq rfl rfl, counters, ports.pending_busy,
      fun reset => absurd (low.symm.trans reset) (by decide), ports.work_commands⟩

/-- Settles O55: move by move, of the block and of the outside. -/
theorem everyStepKeepsInv : Obligations.EveryStepKeepsInv := by
  intro s t h hstep
  obtain ⟨encoder, counters, ports⟩ := (inv_iff s).1 h
  have consumed (es : List HostEvent) : Inv { s with events := es } :=
    (inv_iff _).2 ⟨encoder.of_eq rfl rfl, counters, ports.pending_busy, ports.reset_held, ports.work_commands⟩
  obtain ⟨es, -, move⟩ | ⟨w, es, -, rfl⟩ | ⟨a, es, -, rfl⟩ | ⟨b, es, -, rfl⟩ | ⟨b, es, -, rfl⟩ := step_cases hstep
  · exact blockMove_keeps_inv (consumed es) move
  · refine (inv_iff _).2 ⟨encoder.of_eq rfl rfl, counters, ports.pending_busy, ports.reset_held, fun f hf => ?_⟩
    obtain hf | hf := List.mem_append.1 hf
    · exact ports.work_commands f hf
    · rw [List.mem_singleton.1 hf]
      rfl
  · rw [readPort_frame]
    exact (inv_iff _).2 ⟨encoder.of_eq rfl rfl, counters, ports.pending_busy, ports.reset_held, ports.work_commands⟩
  · exact (inv_iff _).2 ⟨encoder.of_eq rfl rfl, counters, ports.pending_busy, ports.reset_held, ports.work_commands⟩
  · exact setRst_keeps_inv (consumed es) b

end Sys2Proof.Machine
end

section
/-! PROOFS. Register reads (10_state.md R34, R35, R38, 70_reset_and_hazards.md R206). -/

namespace Sys2Proof.Machine

open Sys2Proof.Safety

/-! ## One read -/

theorem readPort_idle {s : State} (idle : s.busy = false) (a : BitVec 5) :
    s.readPort a = { s with reads := s.reads ++ [⟨a, false, s.readReg a⟩] } := by
  simp [State.readPort, idle]

theorem readPort_busy {s : State} (busy : s.busy = true) (a : BitVec 5) :
    s.readPort a = { s with reads := s.reads ++ [⟨a, true, s.busyRead a⟩], draws := s.draws + 1 } := by
  simp [State.readPort, busy]

/-- STATUS.BUSY is exact in every read (R206). -/
theorem busyRead_status_busy (s : State) : (s.busyRead 0x00).getLsbD 2 = true := by
  simp [State.busyRead]

section

variable {s : State} {a : BitVec 5} {es : List HostEvent} (read : s.events = .read a :: es)
include read

theorem step_read : step s = .next (State.readPort a { s with events := es }) := by
  simp only [step, read, State.hostMove]

theorem step_read_idle (idle : s.busy = false) :
    step s = .next { s with events := es, reads := s.reads ++ [⟨a, false, s.readReg a⟩] } := by
  rw [step_read read, readPort_idle (s := { s with events := es }) idle]
  rfl

theorem step_read_busy (busy : s.busy = true) :
    step s = .next
      { s with events := es, reads := s.reads ++ [⟨a, true, s.busyRead a⟩], draws := s.draws + 1 } := by
  rw [step_read read, readPort_busy (s := { s with events := es }) busy]
  rfl

end

/-! ## Any number of reads -/

/-- Reads of an idle block answer the registers, one after the other, and change nothing else. -/
theorem runSteps_reads (as : List (BitVec 5)) {s : State} (idle : s.busy = false) (reads : s.events = as.map .read) :
    runSteps as.length s = .next
      { s with events := [], reads := s.reads ++ as.map (fun a => ⟨a, false, s.readReg a⟩) } := by
  induction as generalizing s with
  | nil =>
    have quiet : s.events = [] := reads
    rw [List.map_nil, List.append_nil, ← quiet]
    rfl
  | cons a as ih =>
    rw [List.length_cons, runSteps_succ_of_step (step_read_idle reads idle), ih (by exact idle) rfl, List.map_cons]
    simp only [List.append_assoc, List.singleton_append]
    rfl

/-- Settles O46: the registers do not depend on the hidden state, so the same reads answer the same. -/
theorem readsDoNotShowHiddenState : Obligations.ReadsDoNotShowHiddenState := by
  intro s as c l r idle reads
  exact ⟨_, _, runSteps_reads as idle reads,
    runSteps_reads as (s := { s with cache := c, lastPx := l, run := r }) idle reads, rfl, rfl⟩

/-- Settles O45: a read of an idle block is `step_read_idle`, of a busy block `step_read_busy`. -/
theorem registerReadsHaveNoSideEffect : Obligations.RegisterReadsHaveNoSideEffect := by
  intro s a es read
  refine ⟨step_read_idle read, fun idle es' again => ?_, fun reserved => ?_, fun busy => ?_⟩
  · subst again
    rw [runSteps_succ_of_step (step_read_idle read idle), runSteps_succ_of_step (step_read_idle rfl (by exact idle)),
      runSteps_zero, List.append_assoc]
    rfl
  · exact readReg_reserved s (by simpa [← BitVec.toNat_inj] using reserved)
  · refine ⟨s.busyRead a, ?_, step_read_busy read busy⟩
    rintro rfl
    exact busyRead_status_busy s

end Sys2Proof.Machine
end

section
/-! PROOFS. The command port, the output port and reset (10_state.md R39 to R44, 70_reset_and_hazards.md R200, R201,
R207). -/

namespace Sys2Proof.Machine

open Sys2Proof.Safety

/-! ## The block takes a command -/

theorem cmdReady_iff (s : State) : s.cmdReady = true ↔ s.busy = false ∧ s.rst = false := by
  simp [State.cmdReady]

/-- A ready block with no byte waiting runs the first word on the port. -/
theorem blockMove_of_ready {s : State} {f : Fetched} {fs : List Fetched} (ready : s.cmdReady = true)
    (empty : s.pending = []) (work : s.work = f :: fs) : s.blockMove = runFetched f (s.accept fs) := by
  obtain ⟨idle, running⟩ := (cmdReady_iff s).1 ready
  simp [State.blockMove, running, empty, idle, work]

theorem runFetched_of_ok {f : Fetched} {i : Instr} {s : State} (h : readFetched s.cfg.reservedBits f = .ok i) :
    runFetched f s = exec i s := by
  simp only [runFetched, h]

theorem runFetched_of_error {f : Fetched} {e : DecodeReject} {s : State}
    (h : readFetched s.cfg.reservedBits f = .error e) : runFetched f s = .refused (refusalOf e) := by
  simp only [runFetched, h]

/-- A tick gives the block its move. -/
theorem step_of_tick {s : State} {es : List HostEvent} (tick : s.events = .tick :: es) :
    step s = State.blockMove { s with events := es } := by
  simp only [step, tick, State.hostMove]

/-- Settles O47: with no event and after a tick the step is the block's move, which runs the first word. -/
theorem stepRunsTheDecodedInstruction : Obligations.StepRunsTheDecodedInstruction := by
  refine ⟨fun s f fs i ready empty work decoded => ⟨fun quiet => ?_, fun es tick => ?_⟩,
    fun s f fs e ready empty work quiet rejected => ?_, fun s nbits w i decoded => ?_⟩
  · rw [step_of_no_events quiet, blockMove_of_ready ready empty work, runFetched_of_ok (by exact decoded)]
    rfl
  · rw [step_of_tick tick, blockMove_of_ready (by exact ready) (by exact empty) (by exact work),
      runFetched_of_ok (by exact decoded)]
    rfl
  · rw [step_of_no_events quiet, blockMove_of_ready ready empty work, runFetched_of_error (by exact rejected)]
  · rw [step_of_tick (es := s.events) rfl, blockMove_of_ready (f := tableFetched nbits w) (fs := s.work) rfl rfl rfl,
      runFetched_of_ok (by exact decoded)]
    rfl

/-- Settles O48: of the moves, only an offer and an acceptance write the port. -/
theorem commandsAcceptedInOrderWhenReady : Obligations.CommandsAcceptedInOrderWhenReady := by
  intro s t hstep changed
  obtain ⟨es, -, move⟩ | ⟨w, es, offer, rfl⟩ | ⟨a, es, -, rfl⟩ | ⟨b, es, -, rfl⟩ | ⟨b, es, -, rfl⟩ := step_cases hstep
  · obtain ⟨rfl, -⟩ | ⟨-, -, b, rest, -, rfl⟩ | ⟨-, -, -, rfl⟩ | ⟨running, -, idle, f, fs, i, work, -, hi⟩ :=
      blockMove_cases move
    · exact absurd rfl changed
    · exact absurd rfl changed
    · exact absurd rfl changed
    · have kept := exec_keeps_ports hi
      have port : s.work = f :: fs := work
      have valid : s.cmdValid = true := by simp [State.cmdValid, port]
      exact .inr ⟨valid, (cmdReady_iff s).2 ⟨idle, running⟩, kept.busy, f, by rw [port, kept.work]; rfl⟩
  · exact .inl ⟨w, es, offer, rfl⟩
  · rw [readPort_frame] at changed
    exact absurd rfl changed
  · exact absurd rfl changed
  · unfold State.setRst at changed
    split at changed <;> exact absurd rfl changed

/-! ## The block delivers bytes -/

section

variable {s : State} (running : s.rst = false)
include running

/-- A waiting byte goes to a ready sink (R41). -/
theorem blockMove_transfers {b : Byte} {rest : List Byte} (ready : s.outReady = true)
    (waiting : s.pending = b :: rest) : s.blockMove = .next (s.transferByte b rest) := by
  simp [State.blockMove, running, ready, waiting]

/-- A command with no byte waiting completes (R42). -/
theorem blockMove_completes (busy : s.busy = true) (empty : s.pending = []) :
    s.blockMove = .next s.completeCommand := by
  simp [State.blockMove, running, busy, empty]

end

/-- Settles O49: a ready sink takes the byte, and a sink that is not ready stalls the block. -/
theorem outputBytesTransferredInOrder : Obligations.OutputBytesTransferredInOrder := by
  intro s b rest quiet running waiting
  rw [step_of_no_events quiet]
  exact ⟨fun ready => blockMove_transfers running ready waiting,
    fun notReady => blockMove_of_stalled notReady (by simp [waiting])⟩

/-- A ready sink has taken every waiting byte after as many steps. -/
theorem runSteps_drains {s : State} (quiet : s.events = []) (running : s.rst = false) (ready : s.outReady = true)
    (waiting : s.pending ≠ []) : runSteps s.pending.length s =
      .next { s with out := s.out ++ s.pending, pending := [], busy := false } := by
  obtain ⟨b, rest, pending⟩ := List.exists_cons_of_ne_nil waiting
  induction rest generalizing s b with
  | nil =>
    have transfer := (step_of_no_events quiet).trans (blockMove_transfers running ready pending)
    rw [pending, List.length_singleton, runSteps_succ_of_step transfer]
    rfl
  | cons b' rest ih =>
    have transfer := (step_of_no_events quiet).trans (blockMove_transfers running ready pending)
    have rest_drains := ih (s := s.transferByte b (b' :: rest)) quiet running ready (by simp) b' rfl
    rw [pending, List.length_cons, runSteps_succ_of_step transfer]
    refine rest_drains.trans ?_
    rw [State.transferByte_out, State.transferByte_pending, List.append_assoc]
    rfl

/-- Settles O51: the waiting bytes are drained, or the command completes at once. -/
theorem acceptedCommandCompletes : Obligations.AcceptedCommandCompletes := by
  intro s quiet running ready busy
  by_cases empty : s.pending = []
  · have completes := (step_of_no_events quiet).trans (blockMove_completes running busy empty)
    rw [empty, List.length_nil, Nat.max_zero, runSteps_succ_of_step completes, List.append_nil, ← empty]
    rfl
  · rw [Nat.max_eq_right (List.length_pos_iff.2 empty)]
    exact runSteps_drains quiet running ready empty

/-! ## Nothing observed is taken back -/

/-- The observed bytes and reads of `t` extend those of `s`. -/
def ObservationExtends (s t : State) : Prop :=
  (observed s).1 <+: (observed t).1 ∧ (observed s).2 <+: (observed t).2

theorem observationExtends_of_append {s t : State} {bytes : List Byte} {answers : List ReadAnswer}
    (out : t.out = s.out ++ bytes) (reads : t.reads = s.reads ++ answers) : ObservationExtends s t := by
  refine ⟨⟨bytes, out.symm⟩, answers.filter fun r => !r.busy, ?_⟩
  simp [observed, reads]

theorem blockMove_extends {s t : State} (move : s.blockMove = .next t) : ObservationExtends s t ∧
    ∃ bytes, t.out ++ t.pending = s.out ++ s.pending ++ bytes := by
  obtain ⟨rfl, -⟩ | ⟨-, -, b, rest, waiting, rfl⟩ | ⟨-, -, -, rfl⟩ | ⟨-, empty, -, f, fs, i, -, -, hi⟩ :=
    blockMove_cases move
  · exact ⟨observationExtends_of_append (List.append_nil _).symm (List.append_nil _).symm, [], (List.append_nil _).symm⟩
  · exact ⟨observationExtends_of_append (bytes := [b]) rfl (List.append_nil _).symm, [], by simp [waiting]⟩
  · exact ⟨observationExtends_of_append (List.append_nil _).symm (List.append_nil _).symm, [], (List.append_nil _).symm⟩
  · have kept := exec_keeps_ports hi
    refine ⟨observationExtends_of_append (bytes := []) (answers := []) ?_ ?_, t.pending, ?_⟩
    · rw [kept.out, List.append_nil]; rfl
    · rw [kept.reads, List.append_nil]; rfl
    · rw [kept.out, empty, List.append_nil]; rfl

/-- When the pin rises or falls the block takes its reset values (70_reset_and_hazards.md R200). -/
theorem setRst_resets {b : Bool} {s : State} (event : b = true ∨ s.rst = true) :
    s.setRst b = { s.applyReset with rst := b } :=
  if_pos (by simpa using event)

/-- Settles O52: a read extends the record, a transfer the sink's bytes, an instruction the waiting ones, and a reset
gives the sink an initial part of these. -/
theorem emittedBytesAreNeverRewritten : Obligations.EmittedBytesAreNeverRewritten := by
  intro s t hstep
  rw [← and_assoc]
  obtain ⟨es, -, move⟩ | ⟨w, es, -, rfl⟩ | ⟨a, es, -, rfl⟩ | ⟨b, es, -, rfl⟩ | ⟨b, es, reset, rfl⟩ := step_cases hstep
  · obtain ⟨observation, bytes⟩ := blockMove_extends move
    exact ⟨observation, fun _ => bytes⟩
  · exact ⟨observationExtends_of_append (List.append_nil _).symm (List.append_nil _).symm,
      fun _ => ⟨[], (List.append_nil _).symm⟩⟩
  · have reads : ∃ answer, (State.readPort a { s with events := es }).reads = s.reads ++ [answer] := by
      unfold State.readPort
      split <;> exact ⟨_, rfl⟩
    obtain ⟨answer, reads⟩ := reads
    rw [readPort_frame]
    exact ⟨observationExtends_of_append (List.append_nil _).symm reads, fun _ => ⟨[], (List.append_nil _).symm⟩⟩
  · exact ⟨observationExtends_of_append (List.append_nil _).symm (List.append_nil _).symm,
      fun _ => ⟨[], (List.append_nil _).symm⟩⟩
  · refine ⟨?_, fun noReset => absurd reset (noReset b es)⟩
    unfold State.setRst
    split
    · exact observationExtends_of_append rfl (List.append_nil _).symm
    · exact observationExtends_of_append (List.append_nil _).symm (List.append_nil _).symm

/-! ## Reset -/

/-- In reset the block does not move (R200). -/
theorem blockMove_in_reset {s : State} (reset : s.rst = true) : s.blockMove = .next s := by
  simp [State.blockMove, reset]

/-- Settles O53: a reset event is `applyReset`, field by field. -/
theorem resetGivesTheResetValues : Obligations.ResetGivesTheResetValues := by
  refine ⟨fun s b es event edge => ?_, fun s reset quiet => (step_of_no_events quiet).trans (blockMove_in_reset reset)⟩
  obtain ⟨k, hk, taken⟩ := abandonedPrefix_eq_take { s with events := es }
  have resets : step s = .next { State.applyReset { s with events := es } with rst := b } := by
    simp only [step, event, State.hostMove, setRst_resets (s := { s with events := es }) edge]
  refine ⟨_, k, resets, hk, congrArg (s.out ++ ·) taken, ?_⟩
  simp [State.applyReset, State.resetWith, State.cacheAt]

end Sys2Proof.Machine
end

section
/-! PROOFS. Steps refine the commands (20_memory.md R70, 10_state.md R40 to R42): words on the command port are taken
one by one, and between two of them the sink takes the bytes. What the instructions do depends on neither. -/

namespace Sys2Proof.Machine

open Sys2Proof.Safety

/-! ## What no instruction sees -/

/-- The write `f` touches nothing that an instruction reads, and commutes with what it writes. -/
def CommutesWithExec (f : State → State) : Prop :=
  ∀ i s t, exec i s = .next t → exec i (f s) = .next (f t)

theorem Unread.commutesWithExec {f : State → State} (hf : Unread f)
    (init : ∀ w h c cs en s t, exec (.init w h c cs en) s = .next t → exec (.init w h c cs en) (f s) = .next (f t)) :
    CommutesWithExec f := by
  intro i s t ht
  cases isInit_i : isInit i with
  | true =>
    cases i with
    | init w h c cs en => exact init w h c cs en s t ht
    | pix _ | finish | illegal | index _ | diff _ _ _ | luma _ _ _ | run _ | rgb _ _ _ | rgba _ => cases isInit_i
  | false =>
    obtain ⟨u, hu, moved⟩ := hf.exec_of_not_init isInit_i s
    obtain rfl : u = t := by simpa [hu] using ht
    exact moved

theorem CommutesWithExec.runCommands {f : State → State} (hf : CommutesWithExec f) {is : List Instr} {s t : State}
    (h : runCommands is s = .next t) : runCommands is (f s) = .next (f t) := by
  induction is generalizing s with
  | nil =>
    obtain rfl := Host.Outcome.next.inj h
    rfl
  | cons i is ih =>
    obtain ⟨u, hu⟩ := exec_answers_next i s
    rw [runCommands_cons hu] at h
    rw [runCommands_cons (hf i s u hu)]
    exact ih h

/-- The acceptance of a word may as well come after the instruction. -/
theorem accept_commutesWithExec (fs : List Fetched) : CommutesWithExec (State.accept fs) := by
  have unread : Unread (State.accept fs) :=
    { emission := fun _ _ _ _ => Eq.symm (apply_ite (State.accept fs) _ _ _)
      raiseFlag := fun flag _ => by cases flag <;> rfl }
  refine unread.commutesWithExec fun w h c cs en s t ht => ?_
  rw [exec_init] at ht ⊢
  obtain rfl := Host.Outcome.next.inj ht
  rfl

/-- The state in which the sink has received `out`, and the bytes `before` wait in front of those of `s`. -/
def State.behind (out before : List Byte) (s : State) : State := { s with out := out, pending := before ++ s.pending }

/-- An instruction appends its bytes, whatever waits or has gone before. -/
theorem behind_commutesWithExec (out before : List Byte) : CommutesWithExec (State.behind out before) := by
  have unread : Unread (State.behind out before) :=
    { emission := fun k bytes npix s => by
        unfold State.emitChunk State.countChunk
        rw [apply_ite (State.behind out before)]
        simp only [State.behind, State.emitBytes, List.append_assoc]
        rfl
      raiseFlag := fun flag _ => by cases flag <;> rfl }
  refine unread.commutesWithExec fun w h c cs en s t ht => ?_
  rw [exec_init] at ht ⊢
  obtain rfl := Host.Outcome.next.inj ht
  rfl

/-! ## One command on the port -/

/-- Clearing the reserved bits of a word in which they are clear changes nothing. -/
theorem clearReserved_of_reservedClear {w : CommandWord} (clear : ReservedClear w) : clearReserved w = w := by
  apply BitVec.eq_of_getLsbD_eq
  intro j hj
  by_cases reserved : reservedAt w j
  · rw [clearReserved_getLsbD_of_reservedAt reserved, clear j reserved]
  · rw [clearReserved_getLsbD_of_not_reservedAt hj reserved]

theorem encode_of_isCommand {i : Instr} (command : i.isCommand = true) : ∃ w, encode i = .command w := by
  cases i with
  | init _ _ _ _ _ | pix _ | finish | illegal => exact ⟨_, rfl⟩
  | index _ | diff _ _ _ | luma _ _ _ | run _ | rgb _ _ _ | rgba _ => cases command

/-- The word of a command is read back as the command, under both readings of reserved bits (30_encoding.md R85). -/
theorem readFetched_encode {i : Instr} (command : i.isCommand = true) (r : ReservedBits) :
    readFetched r (encode i) = .ok i := by
  obtain ⟨w, enc⟩ := encode_of_isCommand command
  have operands := commandOperands_of_encode enc
  have clear : ReservedClear w := by rw [← encode_commandOperands_eq_iff, operands, enc]
  rw [enc]
  cases r with
  | refuse => exact (decodeCommand_eq_ok_iff w i).2 enc
  | ignore => rw [readFetched_ignore_command, clearReserved_of_reservedClear clear, operands]

/-- A run of any machine goes on from where its first steps end. -/
theorem coreRun_add (M : Host.Core) {s t : M.State} {k : Nat} (h : M.run k s = .next t) (l : Nat) :
    M.run (k + l) s = M.run l t := by
  induction k generalizing s with
  | zero =>
    obtain rfl := Host.Outcome.next.inj h
    rw [Nat.zero_add]
  | succ k ih =>
    rw [Host.Core.run] at h
    rw [Nat.succ_add, Host.Core.run]
    split at h
    case h_1 u hu => exact ih h
    case h_2 => cases h
    case h_3 => cases h

theorem runSteps_add {s t : State} {k : Nat} (h : runSteps k s = .next t) (l : Nat) :
    runSteps (k + l) s = runSteps l t :=
  coreRun_add Sys2Proof.core h l

/-- The state `t` when the sink, which had received `out`, has taken the waiting bytes too, and `fs` stand on the
port. -/
def State.drained (out : List Byte) (fs : List Fetched) (t : State) : State :=
  { t with work := fs, out := out ++ t.pending, pending := [], busy := false }

/-- One word on the port of an idle block with a ready sink: the block takes it, runs its command, and has all its bytes
at the sink when it is idle again. -/
theorem runSteps_one_command {i : Instr} {s t : State} {fs : List Fetched} (command : i.isCommand = true)
    (quiet : s.events = []) (ready : s.outReady = true) (running : s.rst = false) (idle : s.busy = false)
    (empty : s.pending = []) (work : s.work = encode i :: fs) (ht : exec i { s with work := [] } = .next t) :
    ∃ k, runSteps k s = .next (t.drained s.out fs) := by
  have kept := exec_keeps_ports ht
  have accepts : step s = .next (t.accept fs) := by
    rw [step_of_no_events quiet, blockMove_of_ready ((cmdReady_iff s).2 ⟨idle, running⟩) empty work,
      runFetched_of_ok (readFetched_encode command _)]
    exact accept_commutesWithExec fs i { s with work := [] } t ht
  have completes := acceptedCommandCompletes (t.accept fs) (kept.events.trans quiet) (kept.rst.trans running)
    (kept.outReady.trans ready) rfl
  refine ⟨max 1 t.pending.length + 1, (runSteps_succ_of_step accepts _).trans (completes.trans ?_)⟩
  rw [State.accept_out, kept.out]
  rfl

/-- Behind the bytes of `t`, the drained state is `t` again. -/
theorem behind_drained {t : State} {out : List Byte} (before : t.out = out) (idle : t.busy = false)
    (noWork : t.work = []) (fs : List Fetched) :
    State.behind out t.pending { t.drained out fs with work := [] } = t := by
  cases t
  subst before idle noWork
  simp [State.behind, State.drained]

/-- Settles O59: command by command. The later commands run behind the first one's bytes as they run without them. -/
theorem stepsDeliverTheCommandsResult : Obligations.StepsDeliverTheCommandsResult := by
  intro is
  induction is with
  | nil =>
    intro s _ _ _ _ _ empty work
    refine ⟨{ s with work := [] }, 0, rfl, ?_⟩
    rw [runSteps_zero]
    cases s
    subst empty work
    simp
  | cons i is ih =>
    intro s commands quiet ready running idle empty work
    obtain ⟨command, tail⟩ := List.forall_mem_cons.1 commands
    obtain ⟨t, ht⟩ := exec_answers_next i { s with work := [] }
    have kept := exec_keeps_ports ht
    obtain ⟨k, taken⟩ := runSteps_one_command command quiet ready running idle empty work ht
    obtain ⟨u, l, rest, delivered⟩ := ih (t.drained s.out (is.map encode)) tail (kept.events.trans quiet)
      (kept.outReady.trans ready) (kept.rst.trans running) rfl rfl rfl
    refine ⟨u.behind s.out t.pending, k + l, ?_, ?_⟩
    · have behind := (behind_commutesWithExec s.out t.pending).runCommands rest
      rw [behind_drained kept.out (kept.busy.trans idle) kept.work] at behind
      exact (runCommands_cons ht is).trans behind
    · rw [runSteps_add taken, delivered]
      simp only [State.drained, State.behind, List.append_assoc]

end Sys2Proof.Machine
end
